-- ==== Sys2Proof/Word.lean ====
section
/-! DEFINITION. The byte type of the frames and the plainest arithmetic of the manual's counts. -/

namespace Sys2Proof

/-- A byte of a frame, a record or a reply (chapter 11). -/
abbrev Byte := BitVec 8

/-- The bound of the counts that the manual keeps in 32 bits. -/
def max32 : Nat := 4294967295

/-- A 32-bit count that "saturates" (00_scope.md 0.9): it stays at its bound. -/
def sat32 (n : Nat) : Nat := min n max32

end Sys2Proof
end

