-- ==== Sys2Proof/Syntax.lean ====
section
/-! DEFINITION. The commands the Wendas 406 takes: one constructor of `Instr` per row of
spec/opcode_table.json, with the operands the spec gives each. -/

namespace Sys2Proof

/-- The two master ports (0.1). -/
inductive Port where
  | panel
  | town
  deriving DecidableEq, Repr

/-- The two level channels (1.1). -/
inductive Loop where
  | well
  | inlet
  deriving DecidableEq, Repr

/-- The six pump positions (0.10). -/
inductive Pump where
  | p1
  | p2
  | p3
  | p4
  | p5
  | p6
  deriving DecidableEq, Repr

/-- A pump's number, 1 to 6 (0.10). -/
def Pump.num : Pump → Nat
  | .p1 => 1
  | .p2 => 2
  | .p3 => 3
  | .p4 => 4
  | .p5 => 5
  | .p6 => 6

/-- The pump a number names, if it names one. -/
def Pump.ofNum : Nat → Option Pump
  | 1 => some .p1
  | 2 => some .p2
  | 3 => some .p3
  | 4 => some .p4
  | 5 => some .p5
  | 6 => some .p6
  | _ => none

/-- All six pumps in ascending number. -/
def Pump.all : List Pump := [.p1, .p2, .p3, .p4, .p5, .p6]

/-- The action of a manual entry, coded RUN 0, STOP 1 (Table 11-1). -/
inductive Action where
  | run
  | stop
  deriving DecidableEq, Repr

/-- The two reset causes (0.15). -/
inductive ResetCause where
  | power
  | pin
  deriving DecidableEq, Repr

/-- A reset: its cause, and `away`, the milliseconds that the part was held in reset or unpowered before it began to
run again, over which the station clock goes on advancing (R141, notes/assumptions/23.md). -/
structure ResetEvent where
  cause : ResetCause
  away : Nat
  deriving DecidableEq, Repr

/-- The result of a store write (R167). -/
inductive StoreResult where
  | written
  | failed
  deriving DecidableEq, Repr

/-- The seven pairs the Contactor Guard covers (4.9): a pump's STAR and DELTA, the rake's UP and DOWN. -/
inductive GuardPair where
  | pump (p : Pump)
  | rake
  deriving DecidableEq, Repr

/-- The commands. The docstring of each constructor names its row of spec/opcode_table.json. -/
inductive Instr where
  /-- RESET (R171) with its cause. -/
  | reset (cause : ResetEvent)
  /-- SAMPLE_EVENT (R1) of a channel with the raw count its converter reads. -/
  | sampleEvent (c : Loop) (raw : BitVec 12)
  /-- RAW_INPUT_CHANGE (R9): raw input `k` takes the value `v`. -/
  | rawInputChange (k : Fin 40) (v : Bool)
  /-- INPUT_CHANGE (R9): the debounce interval of input `k` runs out. -/
  | inputChange (k : Fin 40)
  /-- DISAGREE_TIMER_END (R12). -/
  | disagreeTimerEnd
  /-- FLOW_TICK (R20). -/
  | flowTick
  /-- BALANCE_TICK (R25). -/
  | balanceTick
  /-- SUMMARY_BOUNDARY (R30). -/
  | summaryBoundary
  /-- CLOCK_ADVANCE (R141). -/
  | clockAdvance
  /-- MANUAL_ENTRY_EXPIRY (R44). -/
  | manualEntryExpiry (p : Pump)
  /-- DUTY_HOLD_EXPIRY (R51). -/
  | dutyHoldExpiry
  /-- HANDOVER_TIMEOUT (R52). -/
  | handoverTimeout
  /-- DOL_RUNUP_END (R58). -/
  | dolRunupEnd (p : Pump)
  /-- STAR_TIMER_END (R59). -/
  | starTimerEnd (p : Pump)
  /-- GUARD_GRANT (R77) of a pair's held request. -/
  | guardGrant (g : GuardPair)
  /-- MIN_RUN_END (R60). -/
  | minRunEnd (p : Pump)
  /-- FEEDBACK_DEADLINE (R63). -/
  | feedbackDeadline (p : Pump)
  /-- REST_END (R62). -/
  | restEnd (p : Pump)
  /-- RESTART_HOLD_END (R91). -/
  | restartHoldEnd
  /-- STAGGER_END (R80). -/
  | staggerEnd
  /-- HISTORY_WINDOW_END (R86). -/
  | historyWindowEnd
  /-- RAKE_INRUSH_TIMER_END (R87). -/
  | rakeInrushTimerEnd
  /-- RAKE_TRAVEL_TIMEOUT (R102). -/
  | rakeTravelTimeout
  /-- JAM_BACKOFF_END (R104). -/
  | jamBackoffEnd
  /-- DISCHARGE_END (R105). -/
  | dischargeEnd
  /-- RAKE_INTERVAL_EXPIRY (R98). -/
  | rakeIntervalExpiry
  /-- BLINDING_TIMER_END (R111). -/
  | blindingTimerEnd
  /-- OVERFLOW_OPEN_TIMER_END (R116). -/
  | overflowOpenTimerEnd
  /-- OVERFLOW_CLOSE_TIMER_END (R118). -/
  | overflowCloseTimerEnd
  /-- OVERFLOW_RECORD_UPDATE (R117). -/
  | overflowRecordUpdate
  /-- SIM_TIME_LIMIT (R16). -/
  | simTimeLimit
  /-- LINK_TIMEOUT (R157). -/
  | linkTimeout (p : Port)
  /-- STORE_WRITE_COMPLETE (R167) with the result the read-back gives. -/
  | storeWriteComplete (r : StoreResult)
  /-- SNAPSHOT_DUE (R168). -/
  | snapshotDue
  /-- READ_REPLY (R147): a read transaction that clocks `n` bytes after the direction byte. -/
  | readReply (p : Port) (n : Nat)
  /-- MALFORMED_FRAME (R146): a write arrival with its direction byte and the frame's bytes. -/
  | malformedFrame (p : Port) (dir : Byte) (frame : List Byte)
  /-- UNKNOWN_REQUEST (R146): an intact frame's tag and request code. -/
  | unknownRequest (p : Port) (tag : Byte) (code : Byte)
  /-- READ_IDENTITY (R155). -/
  | readIdentity (p : Port) (tag : Byte)
  /-- READ_STATUS (R154). -/
  | readStatus (p : Port) (tag : Byte) (sect : Byte)
  /-- READ_REFUSAL (R152). -/
  | readRefusal (p : Port) (tag : Byte)
  /-- SET_ATTENTION (R153). -/
  | setAttention (p : Port) (tag : Byte) (threshold : Byte)
  /-- READ_INPUTS (R11). -/
  | readInputs (p : Port) (tag : Byte)
  /-- SIM_ENTER (R14). -/
  | simEnter (p : Port) (tag : Byte) (wellMm inletMm : BitVec 16)
  /-- SIM_SET (R15). -/
  | simSet (p : Port) (tag : Byte) (wellMm inletMm : BitVec 16)
  /-- SIM_EXIT (R16). -/
  | simExit (p : Port) (tag : Byte)
  /-- PUMP_MANUAL (R43). -/
  | pumpManual (p : Port) (tag : Byte) (pump : Byte) (act : Action) (lease : BitVec 16)
  /-- PUMP_RELEASE (R44). -/
  | pumpRelease (p : Port) (tag : Byte) (pump : Byte)
  /-- RESET_LOCKOUT (R68). -/
  | resetLockout (p : Port) (tag : Byte) (pump : Byte)
  /-- RAKE_REQUEST (R96). -/
  | rakeRequest (p : Port) (tag : Byte)
  /-- RESET_SCREEN (R108). -/
  | resetScreen (p : Port) (tag : Byte)
  /-- READ_ALARMS (R126). -/
  | readAlarms (p : Port) (tag : Byte)
  /-- READ_ATTENTION (R127). -/
  | readAttention (p : Port) (tag : Byte)
  /-- ACK_ALARM (R124). -/
  | ackAlarm (p : Port) (tag : Byte) (point : Byte)
  /-- READ_LOG (R137, R139). -/
  | readLog (p : Port) (tag : Byte) (count : Byte)
  /-- SEEK_LOG (R140). -/
  | seekLog (p : Port) (tag : Byte) (seq : BitVec 32)
  /-- RELEASE_LOG (R138). -/
  | releaseLog (p : Port) (tag : Byte) (seq : BitVec 32)
  /-- SET_CLOCK (R142). -/
  | setClock (p : Port) (tag : Byte) (time : BitVec 32)
  /-- READ_SETTING (R161). -/
  | readSetting (p : Port) (tag : Byte) (item : BitVec 16)
  /-- EDIT_SETTING (R163). -/
  | editSetting (p : Port) (tag : Byte) (item : BitVec 16) (value : BitVec 32)
  /-- COMMIT_SETTINGS (R165, R166). -/
  | commitSettings (p : Port) (tag : Byte)
  /-- DISCARD_SETTINGS (R164). -/
  | discardSettings (p : Port) (tag : Byte)
  /-- BACKUP_DOMAIN_SUPPLY_LOSS (R171). -/
  | backupDomainSupplyLoss
  deriving DecidableEq, Repr

end Sys2Proof
end

