-- ==== Sys2Proof/Machine/Frame.lean ====
section
/-! DEFINITION. Frames: the coding of fields (R173), the check value and the request frame (R146, R174),
with the decoder from a request frame's bytes to the command it makes and the encoder back. -/

namespace Sys2Proof.Machine

/-- A numeric field of `n` bytes, most significant byte first (R173). -/
def beBytes : Nat → Nat → List Byte
  | 0, _ => []
  | n + 1, v => BitVec.ofNat 8 (v >>> (8 * n)) :: beBytes n v

/-- The number a run of bytes spells, most significant byte first (R173). -/
def beValue (bs : List Byte) : Nat := bs.foldl (fun a b => a * 256 + b.toNat) 0

/-- One bit of the check register (R174: generator x^16 + x^12 + x^5 + 1). -/
def crcBit (c : BitVec 16) : BitVec 16 :=
  if c.msb then (c <<< 1) ^^^ 0x1021#16 else c <<< 1

/-- One byte into the check register, most significant bit first (R174). -/
def crcByte (c : BitVec 16) (b : Byte) : BitVec 16 :=
  crcBit (crcBit (crcBit (crcBit (crcBit (crcBit (crcBit (crcBit (c ^^^ (b.setWidth 16 <<< 8)))))))))

/-- The check value over a run of bytes: the register starts at all ones and is not inverted (R174). -/
def crc (bs : List Byte) : BitVec 16 := bs.foldl crcByte 0xFFFF#16

/-- A run of bytes followed by its check value, high byte first (R174). -/
def withCheck (bs : List Byte) : List Byte := bs ++ beBytes 2 (crc bs).toNat

/-- The WRITE direction byte (Table 11-1). -/
def dirWrite : Byte := 0x5A#8

/-- The READ direction byte (Table 11-1). -/
def dirRead : Byte := 0xA5#8

/-- The parameter length of each request code (Table 11-3), and none for a code the table does not hold. -/
def paramLength (code : Nat) : Option Nat :=
  match code with
  | 0x01 => some 0
  | 0x02 => some 1
  | 0x03 => some 0
  | 0x04 => some 1
  | 0x10 => some 0
  | 0x11 => some 4
  | 0x12 => some 4
  | 0x13 => some 0
  | 0x20 => some 4
  | 0x21 => some 1
  | 0x22 => some 1
  | 0x30 => some 0
  | 0x31 => some 0
  | 0x40 => some 0
  | 0x41 => some 0
  | 0x42 => some 1
  | 0x50 => some 1
  | 0x51 => some 4
  | 0x52 => some 4
  | 0x53 => some 4
  | 0x60 => some 2
  | 0x61 => some 6
  | 0x62 => some 0
  | 0x63 => some 0
  | _ => none

/-- The class R146 gives a frame, with the command of a well-formed one. -/
inductive FrameClass where
  /-- Refused MALFORMED, with the tag and the code where the frame held enough bytes for both. -/
  | malformed (tagCode : Option (Byte × Byte))
  /-- Intact, with a request code that Table 11-3 does not hold. -/
  | unknown (tag code : Byte)
  /-- Intact, with a known code and parameters within their codes. -/
  | wellFormed (i : Instr)
  deriving DecidableEq, Repr

/-- The command of an intact frame with a known code and the right parameter length, or none where an
enumerated parameter holds a code outside Table 11-1 (R146, R173). -/
def commandOf (p : Port) (tag : Byte) (code : Nat) (ps : List Byte) : Option Instr :=
  match code, ps with
  | 0x01, [] => some (.readIdentity p tag)
  | 0x02, [a] => some (.readStatus p tag a)
  | 0x03, [] => some (.readRefusal p tag)
  | 0x04, [a] => some (.setAttention p tag a)
  | 0x10, [] => some (.readInputs p tag)
  | 0x11, [a, b, c, d] => some (.simEnter p tag (a ++ b) (c ++ d))
  | 0x12, [a, b, c, d] => some (.simSet p tag (a ++ b) (c ++ d))
  | 0x13, [] => some (.simExit p tag)
  | 0x20, [a, b, c, d] =>
    if b = 0#8 then some (.pumpManual p tag a .run (c ++ d))
    else if b = 1#8 then some (.pumpManual p tag a .stop (c ++ d))
    else none
  | 0x21, [a] => some (.pumpRelease p tag a)
  | 0x22, [a] => some (.resetLockout p tag a)
  | 0x30, [] => some (.rakeRequest p tag)
  | 0x31, [] => some (.resetScreen p tag)
  | 0x40, [] => some (.readAlarms p tag)
  | 0x41, [] => some (.readAttention p tag)
  | 0x42, [a] => some (.ackAlarm p tag a)
  | 0x50, [a] => some (.readLog p tag a)
  | 0x51, [a, b, c, d] => some (.seekLog p tag (a ++ b ++ (c ++ d)))
  | 0x52, [a, b, c, d] => some (.releaseLog p tag (a ++ b ++ (c ++ d)))
  | 0x53, [a, b, c, d] => some (.setClock p tag (a ++ b ++ (c ++ d)))
  | 0x60, [a, b] => some (.readSetting p tag (a ++ b))
  | 0x61, [a, b, c, d, e, f] => some (.editSetting p tag (a ++ b) (c ++ d ++ (e ++ f)))
  | 0x62, [] => some (.commitSettings p tag)
  | 0x63, [] => some (.discardSettings p tag)
  | _, _ => none

/-- The tag and the code of a frame that held enough bytes for both (R146). -/
def tagCodeOf : List Byte → Option (Byte × Byte)
  | _ :: tag :: code :: _ => some (tag, code)
  | _ => none

/-- R146: the class of a frame that arrives on port `p` after the WRITE direction byte. Shortest frame 5
bytes, longest 11; the length byte agrees with the bytes clocked; the check value matches. -/
def classifyFrame (p : Port) (f : List Byte) : FrameClass :=
  match f with
  | len :: tag :: code :: rest =>
    if 5 ≤ f.length ∧ f.length ≤ 11 ∧ len.toNat = f.length ∧
        f = withCheck (f.take (f.length - 2)) then
      match paramLength code.toNat with
      | none => .unknown tag code
      | some n =>
        if rest.length = n + 2 then
          match commandOf p tag code.toNat (rest.take n) with
          | some i => .wellFormed i
          | none => .malformed (some (tag, code))
        else .malformed (some (tag, code))
    else .malformed (some (tag, code))
  | _ => .malformed none

/-- R145: a write arrival with its direction byte. A direction byte that is neither code is taken as a write
transaction whose frame is malformed. READ begins a read transaction, which is no arrival of a frame. -/
def classifyArrival (p : Port) (dir : Byte) (f : List Byte) : Option FrameClass :=
  if dir = dirWrite then some (classifyFrame p f)
  else if dir = dirRead then none
  else some (.malformed (tagCodeOf f))

/-- The request code and the parameters of a request command (Table 11-3); none for every other command. -/
def requestBody : Instr → Option (Port × Byte × Nat × List Byte)
  | .readIdentity p t => some (p, t, 0x01, [])
  | .readStatus p t a => some (p, t, 0x02, [a])
  | .readRefusal p t => some (p, t, 0x03, [])
  | .setAttention p t a => some (p, t, 0x04, [a])
  | .readInputs p t => some (p, t, 0x10, [])
  | .simEnter p t a b => some (p, t, 0x11, beBytes 2 a.toNat ++ beBytes 2 b.toNat)
  | .simSet p t a b => some (p, t, 0x12, beBytes 2 a.toNat ++ beBytes 2 b.toNat)
  | .simExit p t => some (p, t, 0x13, [])
  | .pumpManual p t n a l =>
    some (p, t, 0x20, [n, match a with | .run => 0#8 | .stop => 1#8] ++ beBytes 2 l.toNat)
  | .pumpRelease p t n => some (p, t, 0x21, [n])
  | .resetLockout p t n => some (p, t, 0x22, [n])
  | .rakeRequest p t => some (p, t, 0x30, [])
  | .resetScreen p t => some (p, t, 0x31, [])
  | .readAlarms p t => some (p, t, 0x40, [])
  | .readAttention p t => some (p, t, 0x41, [])
  | .ackAlarm p t n => some (p, t, 0x42, [n])
  | .readLog p t n => some (p, t, 0x50, [n])
  | .seekLog p t n => some (p, t, 0x51, beBytes 4 n.toNat)
  | .releaseLog p t n => some (p, t, 0x52, beBytes 4 n.toNat)
  | .setClock p t n => some (p, t, 0x53, beBytes 4 n.toNat)
  | .readSetting p t n => some (p, t, 0x60, beBytes 2 n.toNat)
  | .editSetting p t n v => some (p, t, 0x61, beBytes 2 n.toNat ++ beBytes 4 v.toNat)
  | .commitSettings p t => some (p, t, 0x62, [])
  | .discardSettings p t => some (p, t, 0x63, [])
  | .reset _ | .sampleEvent _ _ | .rawInputChange _ _ | .inputChange _ | .disagreeTimerEnd | .flowTick
  | .balanceTick | .summaryBoundary | .clockAdvance | .manualEntryExpiry _ | .dutyHoldExpiry
  | .handoverTimeout | .dolRunupEnd _ | .starTimerEnd _ | .guardGrant _ | .minRunEnd _
  | .feedbackDeadline _ | .restEnd _ | .restartHoldEnd | .staggerEnd | .historyWindowEnd
  | .rakeInrushTimerEnd | .rakeTravelTimeout | .jamBackoffEnd | .dischargeEnd | .rakeIntervalExpiry
  | .blindingTimerEnd | .overflowOpenTimerEnd | .overflowCloseTimerEnd | .overflowRecordUpdate
  | .simTimeLimit | .linkTimeout _ | .storeWriteComplete _ | .snapshotDue | .readReply _ _
  | .malformedFrame _ _ _ | .unknownRequest _ _ _ | .backupDomainSupplyLoss => none

/-- The request frame of a request command, from the length byte through the check value (Table 11-2). -/
def encodeFrame (i : Instr) : Option (Port × List Byte) :=
  match requestBody i with
  | none => none
  | some (p, tag, code, ps) =>
    some (p, withCheck (BitVec.ofNat 8 (ps.length + 5) :: tag :: BitVec.ofNat 8 code :: ps))

end Sys2Proof.Machine
end

