-- ==== Sys2Proof/Config.lean ====
section
/-! DEFINITION. What an implementation fixes (the silicon revision, a free value without a body) and the
fixed intervals that the manual states as numbers and not as settings. -/

namespace Sys2Proof.Config

/-- The silicon revision of READ_IDENTITY (Table 11-3). The spec gives the field one byte and states no
value: a free value, DESIGN CHOICE, notes/assumptions/10.md. -/
opaque siliconRevision : Byte

/-- The format version that the part expects of its nonvolatile image (R169). The spec states no value: a free
value, DESIGN CHOICE, notes/assumptions/25.md. -/
opaque imageVersion : Nat

/-- The check value computed over a format version, the item values and the wear snapshot (R169). The spec
states neither its width nor how it is computed: a free value, DESIGN CHOICE, notes/assumptions/25.md. -/
opaque imageCheck : (version : Nat) → (items wear : List Nat) → Nat

/-- The sample period of a level channel, 250 ms (R1). -/
def samplePeriod : Nat := 250

/-- The debounce interval of inputs 0 to 35, 100 ms (R9). -/
def contactDebounce : Nat := 100

/-- The debounce interval of the floats, inputs 36 to 39, 2 s (R9). -/
def floatDebounce : Nat := 2000

/-- The disagreement timer, 10 s (R12). -/
def disagreeTime : Nat := 10000

/-- The longest simulation session, 1800 s (R16). -/
def sessionLimit : Nat := 1800000

/-- The handover limit, 120 s (R52). -/
def handoverLimit : Nat := 120000

/-- The blinding timer, 60 s (R111). -/
def blindingTime : Nat := 60000

/-- The window of the per-pump start history, 3600 s (R85). -/
def hourWindow : Nat := 3600000

/-- The snapshot schedule, 14400 s (R168). -/
def snapshotPeriod : Nat := 14400000

/-- The disagreement band either side of a float's elevation, 500 mm (R12). -/
def floatBand : Nat := 500

/-- The second of the station clock's time base, 1 s (R141, notes/assumptions/30.md). -/
def clockSecond : Nat := 1000

/-- The capacity of the report log (R132). -/
def logCapacity : Nat := 512

/-- The count at which LOG_FULL becomes true (R136). -/
def logFullAt : Nat := 480

/-- The count below which LOG_FULL becomes false (R136). -/
def logClearBelow : Nat := 448

end Sys2Proof.Config
end

