-- ==== Sys2Proof/Machine/Catalogue.lean ====
section
/-! DEFINITION. The item catalogue (Tables 10-1 and 10-2), the factory defaults, the protected items and
the consistency checks of Table 10-3. A settings list holds item k at place k - 1. -/

namespace Sys2Proof.Machine

/-- An item's least value, greatest value and factory default (Table 10-1). -/
structure ItemRange where
  least : Nat
  greatest : Nat
  default : Nat
  deriving DecidableEq, Repr

/-- Items 1 to 26: calibration, floats, stages, rise, roster (Table 10-1, Table 3-1). -/
def stationItemsLow : List ItemRange :=
  [⟨400, 1200, 683⟩, ⟨1000, 3412, 2730⟩, ⟨500, 20000, 10000⟩,
   ⟨400, 1200, 683⟩, ⟨1000, 3412, 2730⟩, ⟨500, 20000, 10000⟩,
   ⟨0, 20000, 800⟩, ⟨0, 20000, 4200⟩, ⟨0, 20000, 5000⟩, ⟨0, 20000, 4600⟩,
   ⟨0, 20000, 2500⟩, ⟨0, 20000, 3000⟩, ⟨0, 20000, 3500⟩, ⟨0, 20000, 4000⟩, ⟨0, 20000, 4400⟩, ⟨0, 20000, 4800⟩,
   ⟨0, 20000, 1200⟩, ⟨0, 20000, 1400⟩, ⟨0, 20000, 1600⟩, ⟨0, 20000, 1800⟩, ⟨0, 20000, 2000⟩, ⟨0, 20000, 2200⟩,
   ⟨50, 150, 100⟩, ⟨0, 20000, 2000⟩, ⟨0, 120, 10⟩, ⟨0, 24, 4⟩]

/-- Items 27 to 53: power, starts, rake, overflow, balance, links (Table 10-1). -/
def stationItemsHigh : List ItemRange :=
  [⟨1, 6, 3⟩, ⟨0, 6, 2⟩, ⟨1, 10, 3⟩, ⟨20, 500, 100⟩, ⟨2, 60, 10⟩, ⟨1, 8, 4⟩, ⟨60, 3600, 900⟩, ⟨0, 300, 20⟩,
   ⟨50, 2000, 150⟩, ⟨100, 3000, 400⟩, ⟨0, 240, 60⟩, ⟨5, 120, 40⟩, ⟨5, 120, 45⟩, ⟨1, 10, 3⟩, ⟨0, 120, 20⟩,
   ⟨0, 5, 3⟩, ⟨200, 5000, 600⟩, ⟨20, 500, 150⟩, ⟨1, 10, 2⟩,
   ⟨1000, 19000, 5200⟩, ⟨0, 500, 50⟩, ⟨5, 300, 30⟩, ⟨30, 1800, 120⟩, ⟨5, 60, 10⟩, ⟨5, 60, 15⟩,
   ⟨5, 600, 30⟩, ⟨5, 600, 120⟩]

/-- The eight items of a pump, 54 + 8(n - 1) and on: present, start_type, rated_flow, min_run, min_rest,
starts_per_hour, dol_runup_s, star_time_s. PRESENT and DOL are coded 0 (Table 11-1). -/
def pumpItems : List ItemRange :=
  [⟨0, 1, 0⟩, ⟨0, 1, 0⟩, ⟨1, 3000, 500⟩, ⟨0, 600, 60⟩, ⟨0, 600, 30⟩, ⟨1, 12, 6⟩, ⟨1, 20, 5⟩, ⟨2, 30, 8⟩]

/-- Items 102 to 119: the volume table, level and litres of each point (Table 10-2). -/
def volumeItems : List ItemRange :=
  [⟨0, 0, 0⟩, ⟨0, 16000000, 0⟩, ⟨0, 20000, 1000⟩, ⟨0, 16000000, 40000⟩, ⟨0, 20000, 2000⟩, ⟨0, 16000000, 90000⟩,
   ⟨0, 20000, 3000⟩, ⟨0, 16000000, 150000⟩, ⟨0, 20000, 4000⟩, ⟨0, 16000000, 220000⟩,
   ⟨0, 20000, 5000⟩, ⟨0, 16000000, 300000⟩, ⟨0, 20000, 6000⟩, ⟨0, 16000000, 390000⟩,
   ⟨0, 20000, 8000⟩, ⟨0, 16000000, 590000⟩, ⟨20000, 20000, 20000⟩, ⟨0, 16000000, 1790000⟩]

/-- Items 120 to 137: the weir table, head and flow of each point (Table 10-2). -/
def weirItems : List ItemRange :=
  [⟨0, 0, 0⟩, ⟨0, 0, 0⟩, ⟨0, 20000, 50⟩, ⟨0, 200000, 40⟩, ⟨0, 20000, 100⟩, ⟨0, 200000, 110⟩,
   ⟨0, 20000, 200⟩, ⟨0, 200000, 320⟩, ⟨0, 20000, 300⟩, ⟨0, 200000, 580⟩,
   ⟨0, 20000, 400⟩, ⟨0, 200000, 900⟩, ⟨0, 20000, 600⟩, ⟨0, 200000, 1650⟩,
   ⟨0, 20000, 1000⟩, ⟨0, 200000, 3550⟩, ⟨0, 20000, 14800⟩, ⟨0, 200000, 90000⟩]

/-- The default priority of an alarm point (Table 7-1). -/
def defaultPriority (p : Nat) : Nat :=
  if p ≤ 30 then
    match (p - 1) % 5 with
    | 2 => 1
    | 4 => 3
    | _ => 2
  else if p ≤ 33 then 1
  else if p = 35 ∨ p = 41 ∨ p = 45 ∨ p = 46 then 3
  else 2

/-- The points whose enable takes the value ENABLED and no other: TRIP_n, NO_START_n, NO_STOP_n,
RUN_LOST_n and OVERFLOW (R121). -/
def alwaysEnabled (p : Nat) : Bool := (p ≤ 30 && p % 5 != 0) || p == 33

/-- The range and default of item `k`, 1 to 229 (Table 10-1). -/
def itemRange (k : Nat) : ItemRange :=
  if k ≤ 26 then stationItemsLow.getD (k - 1) ⟨0, 0, 0⟩
  else if k ≤ 53 then stationItemsHigh.getD (k - 27) ⟨0, 0, 0⟩
  else if k ≤ 101 then pumpItems.getD ((k - 54) % 8) ⟨0, 0, 0⟩
  else if k ≤ 119 then volumeItems.getD (k - 102) ⟨0, 0, 0⟩
  else if k ≤ 137 then weirItems.getD (k - 120) ⟨0, 0, 0⟩
  else if k ≤ 183 then ⟨1, 3, defaultPriority (k - 137)⟩
  else ⟨0, if alwaysEnabled (k - 183) then 0 else 1, 0⟩

/-- R161, R163: the numbers that name an item. -/
def isItem (k : Nat) : Bool := 1 ≤ k && k ≤ 229

/-- A value lies in an item's range. Item 37, rake_interval_min, takes 0 or 5 to 240 (Table 10-1). -/
def inItemRange (k v : Nat) : Bool :=
  (itemRange k).least ≤ v && v ≤ (itemRange k).greatest && (k != 37 || v == 0 || 5 ≤ v)

/-- The protected items: the calibration, crest_mm and the table items (10.1). -/
def isProtected (k : Nat) : Bool := (1 ≤ k && k ≤ 6) || k == 46 || (102 ≤ k && k ≤ 137)

/-- The factory defaults of Tables 10-1 and 10-2. -/
def factoryDefaults : List Nat := (List.range 229).map fun i => (itemRange (i + 1)).default

/-- Item `k` of a settings list. -/
def itemOf (l : List Nat) (k : Nat) : Nat := l.getD (k - 1) 0

/-- A settings list with item `k` replaced. -/
def setItem (l : List Nat) (k v : Nat) : List Nat := l.set (k - 1) v

/-- The checks of Table 10-3, the simulation check excepted: each with the item it is charged to. -/
def consistencyChecks (l : List Nat) : List (Nat × Bool) :=
  let v := itemOf l
  ([1, 2, 3, 4, 5, 6].map fun k => (10 + k, decide (v (16 + k) < v (10 + k)))) ++
  ([2, 3, 4, 5, 6].map fun k => (10 + k, decide (v (9 + k) ≤ v (10 + k)))) ++
  ([2, 3, 4, 5, 6].map fun k => (16 + k, decide (v (15 + k) ≤ v (16 + k)))) ++
  [(11, decide (v 11 < v 46)), (8, decide (v 7 < v 8)), (9, decide (v 8 < v 9)), (36, decide (v 35 < v 36))] ++
  ([1, 2, 3, 4, 5, 6, 7, 8].map fun i => (102 + 2 * i, decide (v (100 + 2 * i) < v (102 + 2 * i)))) ++
  ([1, 2, 3, 4, 5, 6, 7, 8].map fun i => (103 + 2 * i, decide (v (101 + 2 * i) ≤ v (103 + 2 * i)))) ++
  ([1, 2, 3, 4, 5, 6, 7, 8].map fun i => (120 + 2 * i, decide (v (118 + 2 * i) < v (120 + 2 * i)))) ++
  ([1, 2, 3, 4, 5, 6, 7, 8].map fun i => (121 + 2 * i, decide (v (119 + 2 * i) ≤ v (121 + 2 * i)))) ++
  [(136, decide (20000 - v 46 ≤ v 136))]

/-- The items charged by the failing checks of Table 10-3 (R165). -/
def chargedItems (l : List Nat) : List Nat :=
  ((consistencyChecks l).filter fun c => !c.2).map Prod.fst

/-- The lowest number of a list, if it has one. -/
def lowest : List Nat → Option Nat
  | [] => none
  | a :: as =>
    match lowest as with
    | none => some a
    | some b => some (min a b)

/-- R169: each item value lies in its range and passes the checks of Table 10-3. -/
def settingsSound (l : List Nat) : Bool :=
  l.length == 229 && ((List.range 229).all fun i => inItemRange (i + 1) (itemOf l (i + 1))) &&
    (chargedItems l).isEmpty

/-- The nine points of the volume table, items 102 to 119 (Table 10-1). -/
def volumeTable (l : List Nat) : List (Nat × Nat) :=
  (List.range 9).map fun i => (itemOf l (102 + 2 * i), itemOf l (103 + 2 * i))

/-- The nine points of the weir table, items 120 to 137 (Table 10-1). -/
def weirTable (l : List Nat) : List (Nat × Nat) :=
  (List.range 9).map fun i => (itemOf l (120 + 2 * i), itemOf l (121 + 2 * i))

end Sys2Proof.Machine
end

