-- ==== Sys2Proof/Machine/State.lean ====
section
/-! DEFINITION. The state of the Wendas 406: every register, timer, list, mark and output the spec gives
the part, block by block, as plain data; the reasons a step can stop; and the state after reset. Times are
uptimes in milliseconds unless a field says otherwise. -/

namespace Sys2Proof.Machine

/-- One value per port. -/
structure PerPort (α : Type) where
  panel : α
  town : α
  deriving DecidableEq, Repr

/-- The value of one port. -/
def PerPort.get {α : Type} (v : PerPort α) : Port → α
  | .panel => v.panel
  | .town => v.town

/-- Replace the value of one port. -/
def PerPort.set {α : Type} (v : PerPort α) (p : Port) (x : α) : PerPort α :=
  match p with
  | .panel => { v with panel := x }
  | .town => { v with town := x }

/-- One value per level channel. -/
structure PerLoop (α : Type) where
  well : α
  inlet : α
  deriving DecidableEq, Repr

/-- The value of one channel. -/
def PerLoop.get {α : Type} (v : PerLoop α) : Loop → α
  | .well => v.well
  | .inlet => v.inlet

/-- Replace the value of one channel. -/
def PerLoop.set {α : Type} (v : PerLoop α) (c : Loop) (x : α) : PerLoop α :=
  match c with
  | .well => { v with well := x }
  | .inlet => { v with inlet := x }

/-- One value per pump. -/
structure PerPump (α : Type) where
  p1 : α
  p2 : α
  p3 : α
  p4 : α
  p5 : α
  p6 : α
  deriving DecidableEq, Repr

/-- The value of one pump. -/
def PerPump.get {α : Type} (v : PerPump α) : Pump → α
  | .p1 => v.p1
  | .p2 => v.p2
  | .p3 => v.p3
  | .p4 => v.p4
  | .p5 => v.p5
  | .p6 => v.p6

/-- Replace the value of one pump. -/
def PerPump.set {α : Type} (v : PerPump α) (p : Pump) (x : α) : PerPump α :=
  match p with
  | .p1 => { v with p1 := x }
  | .p2 => { v with p2 := x }
  | .p3 => { v with p3 := x }
  | .p4 => { v with p4 := x }
  | .p5 => { v with p5 := x }
  | .p6 => { v with p6 := x }

/-- The same value for every pump. -/
def PerPump.const {α : Type} (x : α) : PerPump α := ⟨x, x, x, x, x, x⟩

/-- The states of a level channel (R3 to R5), in the order of Table 11-1. -/
inductive LevelState where
  | init
  | good
  | suspect
  | failed
  deriving DecidableEq, Repr

/-- A channel's calibration: zero count Z, span count K, span level S (R1). -/
structure Cal where
  zero : Nat
  span : Nat
  spanMm : Nat
  deriving DecidableEq, Repr

/-- A level channel (1.1). -/
structure LevelChan where
  state : LevelState
  hist : List Nat
  faultRun : Nat
  goodRun : Nat
  level : Option Nat
  raw : BitVec 12
  cal : Cal
  deriving DecidableEq, Repr

/-- A simulation session (1.4): the substitute levels and the session start. -/
structure Session where
  well : Nat
  inlet : Nat
  start : Nat
  deriving DecidableEq, Repr

/-- The Level and Input Unit (chapter 1). `sim` is `none` while the simulation flag is off; `diff` is
`none` while the differential is invalid. -/
structure Liu where
  chan : PerLoop LevelChan
  raw : BitVec 40
  deb : BitVec 40
  rawSince : List Nat
  flags : PerPort (BitVec 40)
  disTimer : Option Nat
  levelDisagree : Bool
  highLevel : Bool
  diff : Option Nat
  sim : Option Session
  nextSample : PerLoop Nat
  deriving DecidableEq, Repr

/-- The summary in progress (R29). `startUp` is an uptime, `startTime` a station clock reading. -/
structure Summary where
  startUp : Nat
  startTime : Option Nat
  pumped : Nat
  spilled : Nat
  highest : Option Nat
  sumIT : Nat
  sumT : Nat
  deriving DecidableEq, Repr

/-- The Balance Engine (chapter 2). -/
structure Be where
  vol : List (Nat × Nat)
  weir : List (Nat × Nat)
  crest : Nat
  t : Nat
  level : Option Nat
  vStart : Option Nat
  p : Nat
  w : Nat
  meteredP : Nat
  meteredW : Nat
  valid : Bool
  ticks : Nat
  estimate : Option Nat
  lastP : Nat
  lastW : Nat
  lastValid : Bool
  preSpill : Nat
  sum : Summary
  boundaryDue : Bool
  nextFlow : Nat
  deriving DecidableEq, Repr

/-- Command sources (0.11), in the order of Table 11-1. -/
inductive Source where
  | off
  | hand
  | manual
  | auto
  deriving DecidableEq, Repr

/-- Posted requests (chapter 3), in the order of Table 11-1. -/
inductive Req where
  | none
  | start
  | stop
  | stopNow
  deriving DecidableEq, Repr

/-- A manual entry (R43). `stamp` orders entries by their making (R90, notes/assumptions/17.md). -/
structure Entry where
  port : Port
  act : Action
  expiry : Nat
  stamp : Nat
  deriving DecidableEq, Repr

/-- A handover record (R52). -/
structure Handover where
  outgoing : List Pump
  incoming : List Pump
  start : Nat
  deriving DecidableEq, Repr

/-- The Staging Unit (chapter 3). `flags` holds stages 1 to 6 in order; `quietFallback` marks the
unrecorded fallback a reset begins with (R55). -/
structure Su where
  flags : List Bool
  dLevel : Nat
  rise : Bool
  d : Nat
  fallback : Bool
  quietFallback : Bool
  lf : Nat
  level : Option Nat
  fresh : Bool
  entry : PerPump (Option Entry)
  stamp : Nat
  roster : List Pump
  dutyStart : Option Nat
  deferredRot : Bool
  handover : Option Handover
  target : List Pump
  posted : PerPump Req
  deriving DecidableEq, Repr

/-- Starter channel states (Table 4-1), in the order of Table 11-1. -/
inductive ChState where
  | unavailable
  | idle
  | queued
  | direct
  | star
  | changeover
  | running
  | stopping
  | lockedOut
  deriving DecidableEq, Repr

/-- Lockout causes (R67), in the order of Table 11-1. -/
inductive Cause where
  | none
  | trip
  | noStart
  | noStop
  | runLost
  deriving DecidableEq, Repr

/-- The per-pump items of a channel (R76); times in seconds. -/
structure PumpItems where
  starDelta : Bool
  ratedFlow : Nat
  minRun : Nat
  minRest : Nat
  startsPerHour : Nat
  dolRunup : Nat
  starTime : Nat
  deriving DecidableEq, Repr

/-- A pump's wear record (R75). -/
structure Wear where
  runSeconds : Nat
  starts : Nat
  deriving DecidableEq, Repr

/-- A starter channel (chapter 4). -/
structure Chan where
  state : ChState
  source : Source
  standing : Bool
  deferred : Bool
  runningSince : Nat
  seqTimer : Option Nat
  fbDeadline : Option Nat
  fbSeen : Bool
  rest : Option Nat
  cause : Cause
  gated : Bool
  force : PumpItems
  pendingSet : Option PumpItems
  wear : Wear
  deriving DecidableEq, Repr

/-- The two members of a guarded pair: STAR and DELTA, or UP and DOWN (4.9). -/
inductive Member where
  | first
  | second
  deriving DecidableEq, Repr

/-- What the guard holds of a pair (4.9). A release uptime of `none` is "taken as already run". -/
structure Pair where
  firstOn : Bool
  secondOn : Bool
  firstRel : Option Nat
  secondRel : Option Nat
  held : Option Member
  deriving DecidableEq, Repr

/-- The Contactor Guard (4.9). -/
structure Cg where
  pump : PerPump Pair
  rake : Pair
  deriving DecidableEq, Repr

/-- The permit's holder (R79). -/
inductive Holder where
  | none
  | pump (p : Pump)
  | rake
  deriving DecidableEq, Repr

/-- Power sources (R88), in the order of Table 11-1. -/
inductive Power where
  | mains
  | generator
  | dead
  deriving DecidableEq, Repr

/-- The simulation history (R92). -/
structure SimHist where
  station : List (Nat × Pump)
  pump : PerPump (List Nat)
  deriving DecidableEq, Repr

/-- The Start Arbiter and Power Supervisor (Table 5-1). `lastRelease` of `none` is "taken as run". -/
structure Sa where
  holder : Holder
  lastRelease : Option Nat
  staggerOn : Bool
  rakeInrush : Option Nat
  queue : List Pump
  waiters : List Pump
  hist : List (Nat × Pump)
  pumpHist : PerPump (List Nat)
  simHist : Option SimHist
  windowMark : Nat
  power : Power
  limit : Nat
  hold : Option Nat
  deriving DecidableEq, Repr

/-- Rake states (Table 6-1), in the order of Table 11-1. -/
inductive RakeState where
  | off
  | parked
  | waitPermit
  | lowering
  | raising
  | jamBackoff
  | discharge
  | homing
  | locked
  deriving DecidableEq, Repr

/-- What a waiting rake waits for (chapter 6). -/
inductive Purpose where
  | cycle
  | home
  deriving DecidableEq, Repr

/-- Rake lock causes (R107). -/
inductive LockCause where
  | none
  | jam
  | travel
  deriving DecidableEq, Repr

/-- The Rake Controller (chapter 6). `firstPending`: a grant was given and the first motion is still to
be reported (R101). -/
structure Rc where
  state : RakeState
  purpose : Purpose
  owed : Nat
  armed : Bool
  forced : Bool
  retry : Nat
  cause : LockCause
  travel : Option Nat
  backoff : Option Nat
  discharge : Option Nat
  interval : Option Nat
  blindTimer : Option Nat
  blinded : Bool
  firstPending : Bool
  deriving DecidableEq, Repr

/-- Overflow monitor states (7.1), in the order of Table 11-1. -/
inductive OmState where
  | quiet
  | opening
  | opened
  | closing
  deriving DecidableEq, Repr

/-- The open event record (7.1). `startUp` is an uptime; the times are station clock readings. -/
structure Event where
  num : Nat
  startUp : Nat
  startTime : Option Nat
  openLevel : Option Nat
  peak : Option Nat
  spill : Nat
  unmeasured : Nat
  elapsed : Nat
  lastTime : Option Nat
  deriving DecidableEq, Repr

/-- The Overflow Monitor (7.1). `debounce` pairs an uptime with a clock reading (optional). -/
structure Om where
  state : OmState
  openTimer : Option Nat
  closeTimer : Option Nat
  debounce : Option (Nat × Option Nat)
  event : Option Event
  nextNum : Nat
  nextUpdate : Nat
  deriving DecidableEq, Repr

/-- Alarm states (R122), in the order of Table 11-1. -/
inductive AlState where
  | normal
  | activeUnack
  | activeAck
  | clearedUnack
  deriving DecidableEq, Repr

/-- An alarm record (R122). The point number is its place in the list, from 1. -/
structure Alarm where
  state : AlState
  cond : Bool
  firstTime : Option Nat
  lastTime : Option Nat
  count : Nat
  unseen : PerPort Bool
  deriving DecidableEq, Repr

/-- The Alarm Table: the 46 records, the attention lines and the beacon (7.2, 7.4). -/
structure At where
  points : List Alarm
  line : PerPort Bool
  beacon : Bool
  deriving DecidableEq, Repr

/-- Reset kinds (0.15). -/
inductive ResetKind where
  | warm
  | cold
  deriving DecidableEq, Repr

/-- End reasons of an overflow event (R118, R120). -/
inductive EndReason where
  | normal
  | interrupted
  deriving DecidableEq, Repr

/-- Simulation exit reasons (R16), in the order of Table 11-1. -/
inductive ExitReason where
  | panelExit
  | linkSilent
  | highFloat
  | realLevel
  | timeLimit
  deriving DecidableEq, Repr

/-- The mode changes a MODE record carries (R133). -/
inductive ModeChange where
  | fallbackEnterWell
  | fallbackEnterDisagree
  | fallbackExit
  | simEnter
  | simExit (r : ExitReason)
  | power (old new : Power)
  deriving DecidableEq, Repr

/-- A record's kind with its payload (Table 8-1). -/
inductive Body where
  | restart (kind : ResetKind) (cause : ResetCause)
  | clockSet (old : Option Nat) (new : Nat)
  | overflowOpen (num : Nat) (level : Option Nat)
  | overflowClose (num : Nat) (endTime : Option Nat) (duration spill : Nat) (peak : Option Nat)
      (unmeasured : Nat) (reason : EndReason)
  | alarmChange (point : Nat) (state : AlState) (count : Nat)
  | alarmAck (point : Nat) (port : Port)
  | summary (startTime : Option Nat) (duration : Nat) (aligned : Bool) (pumped spilled : Nat)
      (highest : Option Nat) (mean : Option Nat) (validSeconds : Nat)
  | mode (m : ModeChange)
  | settingsApplied (port : Port) (count : Nat) (result : StoreResult)
  deriving DecidableEq, Repr

/-- A log record (R132). `classA` is its class; `up` is the uptime in whole seconds. -/
structure LogRec where
  seq : Nat
  classA : Bool
  time : Option Nat
  up : Nat
  body : Body
  deriving DecidableEq, Repr

/-- The Report Log and Station Clock (chapter 8). -/
structure Rl where
  log : List LogRec
  nextSeq : Nat
  cursor : Nat
  full : Bool
  clock : Nat
  clockValid : Bool
  nextAdvance : Option Nat
  deriving DecidableEq, Repr

/-- Refusal reasons (Table 9-2), in the order of the codes of Table 11-4. -/
inductive Reason where
  | unknownRequest
  | malformed
  | notOnThisPort
  | outOfRange
  | noSuchPump
  | selectorNotAuto
  | pumpLocked
  | tripPresent
  | screenNotLocked
  | simActive
  | simConditions
  | notInSim
  | noSuchItem
  | stagingHeld
  | notHolder
  | nothingStaged
  | inconsistent
  | storeBusy
  deriving DecidableEq, Repr

/-- A reply as it was formed (R147, Table 11-2). `refusal` is `none` in an accepted reply. -/
structure Reply where
  tag : Byte
  code : Byte
  refusal : Option (Reason × Option Nat)
  uptime : Nat
  overwritten : Bool
  firstSinceReset : Bool
  afterSilence : Bool
  gap : Bool
  tagAbsent : Bool
  payload : List Byte
  deriving DecidableEq, Repr

/-- The reply buffer (R147). -/
inductive Buffer where
  | empty
  | ready (r : Reply)
  | taken (r : Reply)
  deriving DecidableEq, Repr

/-- Link states (R156), in the order of Table 11-1. -/
inductive Link where
  | await
  | live
  | silent
  deriving DecidableEq, Repr

/-- A port's last refusal (R151). A detail of `none` is sent as 0. -/
structure LastRefusal where
  code : Byte
  tag : Byte
  reason : Reason
  detail : Option Nat
  uptime : Nat
  deriving DecidableEq, Repr

/-- A port controller (chapter 9). `clockedOut` holds the bytes of the last read transaction, the model's
view of the data-out pin (notes/assumptions/13.md). -/
structure PortCtl where
  buffer : Buffer
  link : Link
  linkTimer : Option Nat
  lastReq : Option Nat
  lastRefusal : Option LastRefusal
  refusals : Nat
  threshold : Nat
  firstReply : Bool
  afterSilence : Bool
  clockedOut : List Byte
  deriving DecidableEq, Repr

/-- The store state (R167). -/
inductive Store where
  | idle
  | commit (port : Port) (count : Nat)
  | snapshot
  deriving DecidableEq, Repr

/-- The nonvolatile image (R169): the item values, the wear snapshot, the format version and the check value.
`check` is `none` from the beginning of a write until one completes WRITTEN (notes/assumptions/25.md). -/
structure Image where
  items : List Nat
  wear : PerPump Wear
  version : Nat
  check : Option Nat
  deriving DecidableEq, Repr

/-- The Settings Store (chapter 10). `entries` is the staging copy, rising by item number. -/
structure Ss where
  active : List Nat
  holder : Option Port
  entries : List (Nat × Nat)
  dropped : PerPort Bool
  store : Store
  snapshotDue : Bool
  defaults : Bool
  fault : Bool
  image : Image
  marker : Bool
  nextSnapshot : Nat
  deriving DecidableEq, Repr

/-- The model's own: two reports raised inside the event in hand and taken before it ends
(notes/assumptions/5.md). `cycleEnd`: the last AUTO pump's LINE fell (R50). `offer`: an event of R83. -/
structure Work where
  cycleEnd : Bool
  offer : Bool
  deriving DecidableEq, Repr

/-- The whole part, with the queue of commands that wait. -/
structure State where
  uptime : Nat
  resetKind : ResetKind
  resetCause : ResetCause
  liu : Liu
  be : Be
  su : Su
  ch : PerPump Chan
  cg : Cg
  sa : Sa
  rc : Rc
  om : Om
  alarms : At
  rl : Rl
  ports : PerPort PortCtl
  ss : Ss
  work : Work
  pending : List Instr
  deriving DecidableEq, Repr

/-- The part has no fault that stops it (INVENTORY.md, Faults). -/
inductive Fault where
  /-- Raised by no meaning of the model: the spec describes no event after which the part stops. It stands
  so that the type has a name to print. Safe: nothing answers with it. -/
  | neverRaised
  deriving DecidableEq, Repr

/-- Why the model would give a command no meaning. -/
inductive Refusal where
  /-- Raised by the dispatcher for a command whose row has no meaning yet; no row is left so. Safe: the
  run stops where the part would go on. -/
  | notModelled (mnemonic : String)
  deriving DecidableEq, Repr

/-- A level channel after reset (R17) with its calibration. -/
def LevelChan.reset (c : Cal) : LevelChan :=
  { state := .init, hist := [], faultRun := 0, goodRun := 0, level := none, raw := 0#12, cal := c }

/-- A starter channel after reset (R78) with the source, the items in force and the wear record given it. The spec gives
no value to the running-since uptime, here 0, and to the feedback-seen mark, here clear: DESIGN CHOICE,
notes/assumptions/31.md. -/
def Chan.reset (src : Source) (items : PumpItems) (wear : Wear) : Chan :=
  { state := if src = .off then .unavailable else .idle, source := src, standing := false, deferred := false,
    runningSince := 0, seqTimer := none, fbDeadline := none, fbSeen := false, rest := none, cause := .none,
    gated := false, force := items, pendingSet := none, wear := wear }

/-- A guarded pair after reset (R78). -/
def Pair.reset : Pair := { firstOn := false, secondOn := false, firstRel := none, secondRel := none, held := none }

/-- An alarm record after reset, before the owners' first posts (R131). -/
def Alarm.reset : Alarm :=
  { state := .normal, cond := false, firstTime := none, lastTime := none, count := 0, unseen := ⟨false, false⟩ }

/-- An alarm record whose true condition the reset has posted, the clock being invalid (R131, R123). -/
def Alarm.resetActive : Alarm :=
  { state := .activeUnack, cond := true, firstTime := none, lastTime := none, count := 1, unseen := ⟨true, true⟩ }

/-- A port controller after reset (R160) with its attention threshold and link timeout. -/
def PortCtl.reset (threshold timeout : Nat) : PortCtl :=
  { buffer := .empty, link := .await, linkTimer := some timeout, lastReq := none, lastRefusal := none, refusals := 0,
    threshold := threshold, firstReply := true, afterSilence := false, clockedOut := [] }

/-- The per-pump items of the factory defaults (Table 10-1). -/
def PumpItems.defaults : PumpItems :=
  { starDelta := false, ratedFlow := 500, minRun := 60, minRest := 30, startsPerHour := 6, dolRunup := 5, starTime := 8 }

/-- The part right after a cold power-on reset with every input inactive and no valid image: log entries 7
and 8 say what is the model's choice in this. A theorem of Sys2Proof/Tests/Slice0.lean shows that the
meaning of RESET gives exactly this state. -/
def State.reset : State :=
  { uptime := 0
    resetKind := .cold
    resetCause := .power
    liu :=
      { chan := ⟨LevelChan.reset ⟨683, 2730, 10000⟩, LevelChan.reset ⟨683, 2730, 10000⟩⟩
        raw := 0#40, deb := 0#40, rawSince := List.replicate 40 0, flags := ⟨0#40, 0#40⟩
        disTimer := none, levelDisagree := false, highLevel := false, diff := none, sim := none
        nextSample := ⟨250, 250⟩ }
    be :=
      { vol := volumeTable factoryDefaults, weir := weirTable factoryDefaults, crest := 5200, t := 10
        level := none, vStart := none, p := 0, w := 0, meteredP := 0, meteredW := 0, valid := false, ticks := 0
        estimate := none, lastP := 0, lastW := 0, lastValid := false, preSpill := 0
        sum := { startUp := 0, startTime := none, pumped := 0, spilled := 0, highest := none, sumIT := 0, sumT := 0 }
        boundaryDue := false, nextFlow := 1000 }
    su :=
      { flags := List.replicate 6 false, dLevel := 0, rise := false, d := 0, fallback := true, quietFallback := true
        lf := 0, level := none, fresh := false, entry := PerPump.const none, stamp := 0
        roster := Pump.all, dutyStart := none, deferredRot := false, handover := none
        target := [], posted := PerPump.const .none }
    ch := PerPump.const (Chan.reset .off PumpItems.defaults ⟨0, 0⟩)
    cg := { pump := PerPump.const Pair.reset, rake := Pair.reset }
    sa :=
      { holder := .none, lastRelease := none, staggerOn := false, rakeInrush := none, queue := [], waiters := []
        hist := [], pumpHist := PerPump.const [], simHist := none, windowMark := 0
        power := .dead, limit := 0, hold := none }
    rc :=
      { state := .off, purpose := .home, owed := 0, armed := true, forced := false, retry := 0, cause := .none
        travel := none, backoff := none, discharge := none, interval := some 3600000
        blindTimer := none, blinded := false, firstPending := false }
    om :=
      { state := .quiet, openTimer := none, closeTimer := none, debounce := none, event := none, nextNum := 1
        nextUpdate := 1000 }
    alarms :=
      { points := List.replicate 39 Alarm.reset ++ [Alarm.resetActive] ++ List.replicate 3 Alarm.reset ++
          [Alarm.resetActive, Alarm.resetActive] ++ [Alarm.reset]
        line := ⟨true, false⟩, beacon := false }
    rl :=
      { log :=
          [⟨1, true, none, 0, .restart .cold .power⟩, ⟨2, false, none, 0, .alarmChange 45 .activeUnack 1⟩,
           ⟨3, false, none, 0, .alarmChange 40 .activeUnack 1⟩, ⟨4, false, none, 0, .alarmChange 44 .activeUnack 1⟩]
        nextSeq := 5, cursor := 1, full := false, clock := 0, clockValid := false, nextAdvance := none }
    ports := ⟨PortCtl.reset 3 30000, PortCtl.reset 1 120000⟩
    ss :=
      { active := factoryDefaults, holder := none, entries := [], dropped := ⟨false, false⟩, store := .idle
        snapshotDue := false, defaults := true, fault := true
        image := { items := [], wear := PerPump.const ⟨0, 0⟩, version := 0, check := none }
        marker := true, nextSnapshot := 14400000 }
    work := ⟨false, false⟩
    pending := [] }

end Sys2Proof.Machine
end

