-- ==== Sys2Proof/Machine/Operands.lean ====
section
/-! DEFINITION. The named reads of the state: settings items, inputs, and the words the manual uses of the
blocks ("made", "present", "LINE active", "resting", "eligible"), each in one place. -/

namespace Sys2Proof.Machine

/-- The active value of item `k` (R161). -/
def State.item (s : State) (k : Nat) : Nat := itemOf s.ss.active k

/-- The number of a pump's item: offset 0 present, 1 start_type, 2 rated_flow, 3 min_run, 4 min_rest,
5 starts_per_hour, 6 dol_runup_s, 7 star_time_s (Table 10-1). -/
def pumpItem (p : Pump) (off : Nat) : Nat := 54 + 8 * (p.num - 1) + off

/-- A pump is present when its item says PRESENT, coded 0 (0.10, Table 11-1). -/
def State.present (s : State) (p : Pump) : Bool := s.item (pumpItem p 0) == 0

/-- The per-pump items of a settings list (R76). -/
def pumpItemsOf (l : List Nat) (p : Pump) : PumpItems :=
  { starDelta := itemOf l (pumpItem p 1) == 1
    ratedFlow := itemOf l (pumpItem p 2)
    minRun := itemOf l (pumpItem p 3)
    minRest := itemOf l (pumpItem p 4)
    startsPerHour := itemOf l (pumpItem p 5)
    dolRunup := itemOf l (pumpItem p 6)
    starTime := itemOf l (pumpItem p 7) }

/-- The calibration of a channel in a settings list (R1, items 1 to 6). -/
def calOf (l : List Nat) : Loop → Cal
  | .well => ⟨itemOf l 1, itemOf l 2, itemOf l 3⟩
  | .inlet => ⟨itemOf l 4, itemOf l 5, itemOf l 6⟩

/-- The debounced state of input `k` (R9). -/
def State.input (s : State) (k : Nat) : Bool := s.liu.deb.getLsbD k

/-- Input numbers of a pump: 0 HAND, 1 AUTO, 2 run feedback, 3 thermal trip, 4 leak probe (Table 1-1). -/
def pumpInput (p : Pump) (off : Nat) : Nat := 5 * (p.num - 1) + off

/-- The pump and offset an input number below 30 names (Table 1-1). -/
def pumpOfInput (k : Nat) : Option (Pump × Nat) :=
  match Pump.ofNum (k / 5 + 1) with
  | some p => some (p, k % 5)
  | none => none

/-- The screen selector AUTO contact (Table 1-1). -/
def State.screenAuto (s : State) : Bool := s.input 30
/-- The rake top end-of-travel switch (Table 1-1). -/
def State.rakeTop (s : State) : Bool := s.input 31
/-- The rake bottom end-of-travel switch (Table 1-1). -/
def State.rakeBottom (s : State) : Bool := s.input 32
/-- The rake overload (Table 1-1). -/
def State.rakeOverload (s : State) : Bool := s.input 33
/-- The LOW float is made (Table 1-1). -/
def State.lowMade (s : State) : Bool := s.input 36
/-- The HIGH float is made (Table 1-1). -/
def State.highMade (s : State) : Bool := s.input 37
/-- The HIGHHIGH float is made (Table 1-1). -/
def State.hhMade (s : State) : Bool := s.input 38
/-- The WEIR float is made (Table 1-1). -/
def State.weirMade (s : State) : Bool := s.input 39

/-- The WELL channel (1.1). -/
def State.well (s : State) : LevelChan := s.liu.chan.well

/-- WELL is GOOD (R6: a consumer that needs a GOOD level tests the channel state). -/
def State.wellGood (s : State) : Bool := s.well.state == .good

/-- Simulation is active (R14). -/
def State.simOn (s : State) : Bool := s.liu.sim.isSome

/-- The station clock reading, absent while the clock is invalid (R141). -/
def State.clockTime (s : State) : Option Nat := if s.rl.clockValid then some s.rl.clock else none

/-- Apply a change to one pump's channel. -/
def State.mapCh (s : State) (p : Pump) (f : Chan → Chan) : State := { s with ch := s.ch.set p (f (s.ch.get p)) }

/-- Apply a change to one port's controller. -/
def State.mapPort (s : State) (p : Port) (f : PortCtl → PortCtl) : State :=
  { s with ports := s.ports.set p (f (s.ports.get p)) }

/-- An event of R83 has been taken: an offer is due before the event ends (notes/assumptions/5.md). -/
def State.askOffer (s : State) : State := { s with work := { s.work with offer := true } }

/-- The states DIRECT, STAR and CHANGEOVER are the start sequence (R56). -/
def Chan.inSequence (c : Chan) : Bool := c.state == .direct || c.state == .star || c.state == .changeover

/-- LINE is asked for (Table 4-1). -/
def Chan.asksLine (c : Chan) : Bool := c.inSequence || c.state == .running

/-- LINE is active: its coil driver energises the coil (R56, R73). -/
def Chan.lineActive (c : Chan) : Bool := c.asksLine && !c.gated

/-- The resting mark (chapter 4): IDLE with a rest whose end has not been taken. -/
def Chan.resting (c : Chan) : Bool := c.state == .idle && c.rest.isSome

/-- The command source is AUTO or MANUAL. -/
def Chan.staged (c : Chan) : Bool := c.source == .auto || c.source == .manual

/-- The feedback a channel supervises: the simulated one while gated (R73), else the real input. -/
def State.feedback (s : State) (p : Pump) : Bool :=
  let c := s.ch.get p
  if c.gated then c.asksLine else s.input (pumpInput p 2)

/-- LINE is active under AUTO or MANUAL source (R85, R90). -/
def State.limitedLine (s : State) (p : Pump) : Bool := (s.ch.get p).lineActive && (s.ch.get p).staged

/-- The number of pumps whose LINE is active under AUTO or MANUAL source (R85, R90). -/
def State.limitedLines (s : State) : Nat := (Pump.all.filter s.limitedLine).length

/-- The number of gated channels whose LINE is asked for (R92). -/
def State.gatedLines (s : State) : Nat :=
  (Pump.all.filter fun p => (s.ch.get p).gated && (s.ch.get p).asksLine).length

/-- The number of present pumps with command source AUTO whose LINE is active (R50). -/
def State.autoLines (s : State) : Nat :=
  (Pump.all.filter fun p => s.present p && (s.ch.get p).source == .auto && (s.ch.get p).lineActive).length

/-- The number of present pumps, p of R35. -/
def State.presentCount (s : State) : Nat := (Pump.all.filter s.present).length

/-- R45: eligible for AUTO staging. -/
def State.eligible (s : State) (p : Pump) : Bool :=
  let c := s.ch.get p
  s.present p && c.source == .auto && c.state != .lockedOut && c.state != .unavailable && !c.resting

/-- The command source that Table of R42 gives. -/
def State.derivedSource (s : State) (p : Pump) : Source :=
  if !s.present p then .off
  else
    match s.input (pumpInput p 0), s.input (pumpInput p 1) with
    | false, false => .off
    | true, true => .off
    | true, false => .hand
    | false, true => if (s.su.entry.get p).isSome then .manual else .auto

/-- An alarm record by its point number, 1 to 46 (R121). -/
def State.point (s : State) (n : Nat) : Alarm := s.alarms.points.getD (n - 1) Alarm.reset

/-- A point's priority, item 137 + p (R121). -/
def State.priority (s : State) (n : Nat) : Nat := s.item (137 + n)

/-- A point is enabled when its item says ENABLED, coded 0 (R121, Table 11-1). -/
def State.enabled (s : State) (n : Nat) : Bool := s.item (183 + n) == 0

/-- The point numbers of a pump: 1 TRIP, 2 NO_START, 3 NO_STOP, 4 RUN_LOST, 5 LEAK (Table 7-1). -/
def pumpPoint (p : Pump) (off : Nat) : Nat := 5 * (p.num - 1) + off

/-- The point a lockout cause posts (R67). -/
def causePoint (p : Pump) : Cause → Option Nat
  | .none => none
  | .trip => some (pumpPoint p 1)
  | .noStart => some (pumpPoint p 2)
  | .noStop => some (pumpPoint p 3)
  | .runLost => some (pumpPoint p 4)

/-- Whole seconds from now to an uptime, truncated (0.9, notes/assumptions/11.md). -/
def State.secondsTo (s : State) (t : Nat) : Nat := (t - s.uptime) / 1000

/-- A timer that runs has reached its end. -/
def State.reached (s : State) (t : Option Nat) : Bool :=
  match t with
  | some e => e ≤ s.uptime
  | none => false

/-- The restart-free permit test of R80: no holder, no hold, a live source and no stagger in progress. A stagger that
has ended stays ended when a commit lengthens stagger_s: DESIGN CHOICE, notes/assumptions/40.md. -/
def State.permitFree (s : State) : Bool :=
  s.sa.holder == .none && s.sa.hold.isNone && s.sa.power != .dead && !s.sa.staggerOn

/-- The power source of Table of R88 from the two debounced contacts. -/
def State.derivedPower (s : State) : Power :=
  if s.input 34 then .mains else if s.input 35 then .generator else .dead

/-- Table 5-4: the running limit by power source. -/
def State.limitFor (s : State) (w : Power) : Nat :=
  match w with
  | .mains => s.item 27
  | .generator => min (s.item 27) (s.item 28)
  | .dead => 0

/-- The running limit less M, the AUTO pumps' share (R46): M counts MANUAL RUN pumps not LOCKED_OUT. -/
def State.manualRuns (s : State) : Nat :=
  (Pump.all.filter fun p =>
    let c := s.ch.get p
    c.source == .manual && c.state != .lockedOut &&
      (match s.su.entry.get p with | some e => e.act == .run | none => false)).length

/-- R38: demand as the inputs to it stand. -/
def State.demand (s : State) : Nat :=
  if !s.lowMade then 0
  else if s.su.fallback then min s.su.lf s.sa.limit
  else min (s.su.dLevel + if s.su.rise then 1 else 0) s.sa.limit

/-- R46: the target set, the first N eligible pumps in roster order. -/
def State.targetSet (s : State) : List Pump :=
  (s.su.roster.filter s.eligible).take (min s.su.d (s.sa.limit - s.manualRuns))

/-- R35: the flags set among stages 1 to p. -/
def State.levelDemand (s : State) : Nat := ((s.su.flags.take s.presentCount).filter id).length

/-- R84: the rake is waiting for the permit. -/
def State.rakeWaiting (s : State) : Bool := s.rc.state == .waitPermit

/-- The rake's end output of the two, UP first and DOWN second, as the guard holds it (R77). -/
def State.rakeUp (s : State) : Bool := s.cg.rake.firstOn
/-- The rake's DOWN output (R77). -/
def State.rakeDown (s : State) : Bool := s.cg.rake.secondOn
/-- The conveyor output, active in DISCHARGE (Table 6-1, R105). -/
def State.conveyor (s : State) : Bool := s.rc.state == .discharge
/-- A pump's LINE coil driver (R56). -/
def State.lineDriver (s : State) (p : Pump) : Bool := (s.ch.get p).lineActive
/-- A pump's STAR coil driver: the guard's member, held off by the simulation gate (R73, R77). -/
def State.starDriver (s : State) (p : Pump) : Bool := (s.cg.pump.get p).firstOn && !(s.ch.get p).gated
/-- A pump's DELTA coil driver (R73, R77). -/
def State.deltaDriver (s : State) (p : Pump) : Bool := (s.cg.pump.get p).secondOn && !(s.ch.get p).gated

end Sys2Proof.Machine
end

