-- ==== Sys2Proof/Machine/Ops.lean ====
section
/-! DEFINITION. The operations every block shares: appending to the report log, posting a condition to the
Alarm Table, the attention lines and the beacon, the Contactor Guard, and the release of the permit. -/

namespace Sys2Proof.Machine

/-! ### The report log (chapter 8) -/

/-- R133: the class of a record. An ALARM_CHANGE is class A when its point's priority is 1 as it is appended. -/
def State.classAOf (s : State) : Body → Bool
  | .restart _ _ => true
  | .clockSet _ _ => true
  | .overflowOpen _ _ => true
  | .overflowClose _ _ _ _ _ _ _ => true
  | .alarmChange n _ _ => s.priority n == 1
  | .alarmAck _ _ => false
  | .summary _ _ _ _ _ _ _ _ => false
  | .mode _ => false
  | .settingsApplied _ _ _ => false

/-- A list without its oldest record of class B, or as it is where there is none. -/
def dropFirstB : List LogRec → List LogRec
  | [] => []
  | r :: rs => if r.classA then r :: dropFirstB rs else rs

/-- R135: what an append to a full log removes: the oldest record of class B, else the oldest record. -/
def discard (log : List LogRec) : List LogRec :=
  if log.length < Config.logCapacity then log
  else if log.any (fun r => !r.classA) then dropFirstB log
  else log.drop 1

/-- R134: an append that finds the next sequence number at 0 first empties the log and restarts at 1. -/
def restartSeq (r : Rl) : Rl :=
  if r.nextSeq = 0 then { r with log := [], nextSeq := 1, cursor := 1 } else r

/-- The next sequence number after one is given (R134): from its greatest value it becomes 0. -/
def seqAfter (n : Nat) : Nat := if n = max32 then 0 else n + 1

/-- R132: one append, with the common fields formed in this event; the LOG_FULL condition is not looked at. -/
def State.appendRaw (s : State) (b : Body) : State :=
  let r := restartSeq s.rl
  let rec_ : LogRec := ⟨r.nextSeq, s.classAOf b, s.clockTime, s.uptime / 1000, b⟩
  { s with rl := { r with log := discard r.log ++ [rec_], nextSeq := seqAfter r.nextSeq } }

/-! ### The Alarm Table (chapter 7) -/

/-- R128: a port's attention line by its unseen flags, the priorities and its threshold. -/
def State.lineOf (s : State) (p : Port) : Bool :=
  (List.range 46).any fun i =>
    (s.point (i + 1)).unseen.get p && decide (s.priority (i + 1) ≤ (s.ports.get p).threshold)

/-- R129: the beacon by the unacknowledged points of priority 1. -/
def State.beaconOf (s : State) : Bool :=
  (List.range 46).any fun i =>
    s.priority (i + 1) == 1 &&
      ((s.point (i + 1)).state == .activeUnack || (s.point (i + 1)).state == .clearedUnack)

/-- R128, R129: both lines and the beacon re-evaluated. -/
def State.refreshLines (s : State) : State :=
  { s with alarms := { s.alarms with line := ⟨s.lineOf .panel, s.lineOf .town⟩, beacon := s.beaconOf } }

/-- Replace a point's record. -/
def State.setPoint (s : State) (n : Nat) (a : Alarm) : State :=
  { s with alarms := { s.alarms with points := s.alarms.points.set (n - 1) a } }

/-- R123: the state a change of condition moves an enabled point to. -/
def drivenState (c : Bool) (st : AlState) : AlState :=
  match c, st with
  | true, .normal => .activeUnack
  | true, .clearedUnack => .activeUnack
  | true, .activeUnack => .activeUnack
  | true, .activeAck => .activeAck
  | false, .activeUnack => .clearedUnack
  | false, .activeAck => .normal
  | false, .normal => .normal
  | false, .clearedUnack => .clearedUnack

/-- R123, R125: a record moved to a new state: the times, the count and both unseen flags. -/
def movedAlarm (now : Option Nat) (a : Alarm) (st : AlState) : Alarm :=
  { a with
    state := st
    lastTime := now
    firstTime := if a.state = .normal ∧ st = .activeUnack then now else a.firstTime
    count := if st = .activeUnack then min 255 (a.count + 1) else a.count
    unseen := ⟨true, true⟩ }

/-- R122, R123: the record after a post of condition `c` to an enabled or a disabled point. -/
def postedAlarm (now : Option Nat) (enabled : Bool) (c : Bool) (a : Alarm) : Alarm :=
  if a.cond = c then a
  else if !enabled then { a with cond := c }
  else if drivenState c a.state = a.state then { a with cond := c }
  else { movedAlarm now a (drivenState c a.state) with cond := c }

/-- R122 to R125 without the log: the point's record takes the post, and the lines and the beacon follow a
change of state. -/
def State.postTable (s : State) (n : Nat) (c : Bool) : State :=
  let a := s.point n
  let b := postedAlarm s.clockTime (s.enabled n) c a
  let s := s.setPoint n b
  if b.state = a.state then s else s.refreshLines

/-- The ALARM_CHANGE body of a point as it stands (R125). -/
def State.changeBody (s : State) (n : Nat) : Body := .alarmChange n (s.point n).state (s.point n).count

/-- R136: the value an append makes LOG_FULL take, if it changes it. `restarted` says that the append
restarted the sequence (R134), which is a removal for this condition. -/
def fullChange (full : Bool) (held : Nat) (restarted : Bool) : Option Bool :=
  if !full && Config.logFullAt ≤ held then some true
  else if full && restarted && held < Config.logClearBelow then some false
  else none

/-- R132, R136: an append followed by the LOG_FULL evaluation, whose post can itself append. `fuel` bounds
the posts nested in one append: notes/assumptions/20.md says why three are enough. -/
def appendFuel : Nat → Body → State → State
  | 0, b, s => s.appendRaw b
  | fuel + 1, b, s =>
    let restarted := decide (s.rl.nextSeq = 0)
    let s1 := s.appendRaw b
    match fullChange s1.rl.full s1.rl.log.length restarted with
    | none => s1
    | some v =>
      let s2 := { s1 with rl := { s1.rl with full := v } }
      let s3 := s2.postTable 43 v
      if (s3.point 43).state = (s2.point 43).state then s3 else appendFuel fuel (s3.changeBody 43) s3

/-- R132: an append to the report log with all it brings about. -/
def State.append (s : State) (b : Body) : State := appendFuel 3 b s

/-- R122: an owner's post of a condition, with the ALARM_CHANGE a change of state appends (R125). -/
def State.post (s : State) (n : Nat) (c : Bool) : State :=
  let s' := s.postTable n c
  if (s'.point n).state = (s.point n).state then s' else s'.append (s'.changeBody n)

/-- R136, R138: the LOG_FULL evaluation after a removal by release. -/
def State.evalFullAfterRelease (s : State) : State :=
  if s.rl.full && s.rl.log.length < Config.logClearBelow then
    ({ s with rl := { s.rl with full := false } }).post 43 false
  else s

/-- R124: the state an acknowledgment moves a point to. -/
def ackedState : AlState → AlState
  | .activeUnack => .activeAck
  | .clearedUnack => .normal
  | .normal => .normal
  | .activeAck => .activeAck

/-- R124, R125: one point acknowledged by a port: ALARM_CHANGE, then ALARM_ACK. -/
def State.ackPoint (s : State) (p : Port) (n : Nat) : State :=
  let a := s.point n
  let st := ackedState a.state
  if st = a.state then s
  else
    let s1 := (s.setPoint n (movedAlarm s.clockTime a st)).refreshLines
    (s1.append (s1.changeBody n)).append (.alarmAck n p)

/-! ### The Contactor Guard (4.9) -/

/-- A pair's record at the guard. -/
def State.pair (s : State) : GuardPair → Pair
  | .pump p => s.cg.pump.get p
  | .rake => s.cg.rake

/-- Replace a pair's record. -/
def State.setPair (s : State) (g : GuardPair) (x : Pair) : State :=
  match g with
  | .pump p => { s with cg := { s.cg with pump := s.cg.pump.set p x } }
  | .rake => { s with cg := { s.cg with rake := x } }

/-- A pair's dead time in milliseconds: guard_dead_ms or rake_dead_ms (4.9). -/
def State.deadTime (s : State) : GuardPair → Nat
  | .pump _ => s.item 30
  | .rake => s.item 44

/-- The other member of a pair. -/
def Member.other : Member → Member
  | .first => .second
  | .second => .first

/-- A member is active. -/
def Pair.on (x : Pair) : Member → Bool
  | .first => x.firstOn
  | .second => x.secondOn

/-- The uptime at which a member last became inactive; `none` is "taken as already run". -/
def Pair.rel (x : Pair) : Member → Option Nat
  | .first => x.firstRel
  | .second => x.secondRel

/-- A member made active. -/
def Pair.activate (x : Pair) : Member → Pair
  | .first => { x with firstOn := true, held := none }
  | .second => { x with secondOn := true, held := none }

/-- R77: member `m` may be granted now: the other is inactive and has been for the dead time. -/
def Pair.mayGrant (x : Pair) (now dead : Nat) (m : Member) : Bool :=
  !x.on m.other &&
    match x.rel m.other with
    | none => true
    | some r => r + dead ≤ now

/-- R77: a request for a member: granted at once, or held; no effect where it is active or held already. -/
def Pair.request (x : Pair) (now dead : Nat) (m : Member) : Pair :=
  if x.on m then x
  else if x.held = some m then x
  else if x.mayGrant now dead m then x.activate m
  else { x with held := some m }

/-- R77: a release of a member, with the withdrawal of a held request for it. -/
def Pair.release (x : Pair) (now : Nat) (m : Member) : Pair :=
  let held := if x.held = some m then none else x.held
  match m with
  | .first => { x with firstOn := false, firstRel := if x.firstOn then some now else x.firstRel, held := held }
  | .second => { x with secondOn := false, secondRel := if x.secondOn then some now else x.secondRel, held := held }

/-- Ask the guard for a member of a pair (R77). -/
def State.guardAsk (s : State) (g : GuardPair) (m : Member) : State :=
  s.setPair g ((s.pair g).request s.uptime (s.deadTime g) m)

/-- Release a member at the guard (R77). -/
def State.guardRelease (s : State) (g : GuardPair) (m : Member) : State :=
  s.setPair g ((s.pair g).release s.uptime m)

/-- R77: the held request of a pair is due: the other member has been inactive for the dead time. -/
def State.grantDue (s : State) (g : GuardPair) : Option Member :=
  match (s.pair g).held with
  | some m => if (s.pair g).mayGrant s.uptime (s.deadTime g) m then some m else none
  | none => none

/-! ### The permit (5.1, 5.5) -/

/-- R87: a release reported by `h`. A report by a claimant that is not the holder has no effect. -/
def State.releasePermit (s : State) (h : Holder) : State :=
  if s.sa.holder = h then
    { s with
      sa := { s.sa with
        holder := .none
        lastRelease := some s.uptime
        staggerOn := true
        rakeInrush := none } }
  else s

/-- R80, R89, R91: the last release is taken as run, so the stagger is complete. -/
def State.staggerRun (s : State) : State := { s with sa := { s.sa with lastRelease := none, staggerOn := false } }

end Sys2Proof.Machine
end

