-- ==== Sys2Proof/Machine/Flags.lean ====
section
/-! DEFINITION. The conditions the LIU and the SS derive and post: HIGH_LEVEL, the sensor and float points,
the leak points, the float disagreement, and the two conditions of the Overflow Monitor. -/

namespace Sys2Proof.Machine

/-- R7: HIGH_LEVEL by WELL's state and level; SUSPECT keeps the value it had. -/
def State.highLevelNow (s : State) : Bool :=
  match s.well.state with
  | .good =>
    match s.well.level with
    | some l => s.item 10 ≤ l
    | none => false
  | .suspect => s.liu.highLevel
  | .init => false
  | .failed => false

/-- R7: HIGH_LEVEL evaluated and any change of it posted. -/
def State.evalHigh (s : State) : State :=
  let v := s.highLevelNow
  ({ s with liu := { s.liu with highLevel := v } }).post 31 v

/-- R7: WELL_SENSOR and INLET_SENSOR, true while the channel is FAILED. -/
def State.postSensor (s : State) (c : Loop) : State :=
  match c with
  | .well => s.post 34 (s.liu.chan.well.state == .failed)
  | .inlet => s.post 35 (s.liu.chan.inlet.state == .failed)

/-- R7: HIGHHIGH_FLOAT, true while the HIGHHIGH float is made. -/
def State.postHighHigh (s : State) : State := s.post 32 s.hhMade

/-- R7: LEAK_n, true while pump n is present and its leak probe is active. -/
def State.postLeak (s : State) (p : Pump) : State :=
  s.post (pumpPoint p 5) (s.present p && s.input (pumpInput p 4))

/-- The elevation of each float with its debounced state (R10): LOW, HIGH, HIGHHIGH, WEIR. -/
def State.floats (s : State) : List (Nat × Bool) :=
  [(s.item 7, s.lowMade), (s.item 8, s.highMade), (s.item 9, s.hhMade), (s.item 46, s.weirMade)]

/-- R12: a disagreement exists. -/
def State.disagreement (s : State) : Bool :=
  match s.well.state, s.well.level with
  | .good, some l =>
    s.floats.any fun f => if f.2 then l + Config.floatBand < f.1 else f.1 + Config.floatBand < l
  | _, _ => false

/-- R12: the disagreement timer after an evaluation. It runs while the disagreement differs from the
condition. -/
def State.evalDisagree (s : State) : State :=
  let t :=
    if s.disagreement = s.liu.levelDisagree then none
    else
      match s.liu.disTimer with
      | some e => some e
      | none => some (s.uptime + Config.disagreeTime)
  { s with liu := { s.liu with disTimer := t } }

/-- R114: the overflow condition, on the level basis while WELL is GOOD and on the float basis otherwise. -/
def State.overflowNow (s : State) : Bool :=
  if s.wellGood then
    match s.well.level with
    | some l => s.item 46 < l
    | none => false
  else s.weirMade

/-- R114: the close condition. -/
def State.closeNow (s : State) : Bool :=
  if s.wellGood then
    match s.well.level with
    | some l => l ≤ s.item 46 - s.item 47
    | none => false
  else !s.weirMade

/-- R99: the forced status as it should be. -/
def State.forcedNow (s : State) : Bool :=
  s.rc.owed == 8 ||
    match s.liu.diff with
    | some v => s.item 36 ≤ v
    | none => false

end Sys2Proof.Machine
end

