-- ==== Sys2Proof/Machine/Rake.lean ====
section
/-! DEFINITION. The Screen Rake Controller (chapter 6): requests and the owed count, the claim on the
permit, the cycle, homing, lockout, the selector, the loss of supply and blinding. -/

namespace Sys2Proof.Machine

/-- Apply a change to the Rake Controller. -/
def State.mapRc (s : State) (f : Rc → Rc) : State := { s with rc := f s.rc }

/-- R83, R99: a report made while the rake waits is an event that makes an offer. -/
def State.reportIfWaiting (s : State) : State := if s.rakeWaiting then s.askOffer else s

/-- R99: the forced status re-evaluated, and a change reported to the arbiter. -/
def State.evalForced (s : State) : State :=
  let f := s.forcedNow
  if f = s.rc.forced then s else (s.mapRc fun r => { r with forced := f }).reportIfWaiting

/-- R99, R100: entry to WAIT_PERMIT; the rake asks for the permit, and the retry count becomes 0 (R104). -/
def State.rakeWait (s : State) (pp : Purpose) : State :=
  (s.mapRc fun r => { r with state := .waitPermit, purpose := pp, retry := 0 }).askOffer

/-- R100: entry to PARKED, and on to WAIT_PERMIT for CYCLE where a cycle is owed. -/
def State.rakePark (s : State) : State :=
  let s := s.mapRc fun r => { r with state := .parked }
  if 0 < s.rc.owed then s.rakeWait .cycle else s

/-- R96: the owed count takes a new value, and the change is reported (R99, R83). -/
def State.setOwed (s : State) (n : Nat) : State :=
  if n = s.rc.owed then s else (s.mapRc fun r => { r with owed := n }).reportIfWaiting.evalForced

/-- R96: a request adds 1 to the owed count, or is absorbed at 8; a PARKED rake then waits. -/
def State.rakeAdd (s : State) : State :=
  if 8 ≤ s.rc.owed then s
  else
    let s := s.setOwed (s.rc.owed + 1)
    if s.rc.state = .parked then s.rakeWait .cycle else s

/-- R101, R107: the rake reports itself stopped, which releases the permit if it still holds it (R87). -/
def State.rakeStopped (s : State) : State :=
  (s.mapRc fun r => { r with firstPending := false }).releasePermit .rake

/-- UP and DOWN released at the guard, with any held request (R77). -/
def State.rakeDrop (s : State) : State := (s.guardRelease .rake .first).guardRelease .rake .second

/-- The travel, backoff and discharge timers cleared. -/
def State.rakeClearTimers (s : State) : State :=
  s.mapRc fun r => { r with travel := none, backoff := none, discharge := none }

/-- The point of a lock cause (R107): SCREEN_JAM 37, SCREEN_TRAVEL 38. -/
def lockPoint : LockCause → Option Nat
  | .none => none
  | .jam => some 37
  | .travel => some 38

/-- R107: entry to LOCKED. -/
def State.rakeLock (s : State) (c : LockCause) : State :=
  let s := (s.rakeDrop.rakeClearTimers.mapRc fun r => { r with state := .locked, retry := 0, cause := c }).rakeStopped
  match lockPoint c with
  | some n => s.post n true
  | none => s

/-- R101: the output whose first grant by the guard is the first motion: DOWN after a grant for CYCLE, UP after a
grant for HOME. -/
def Purpose.firstMember : Purpose → Member
  | .cycle => .second
  | .home => .first

/-- What becoming active of UP or DOWN sets: the travel timer (R102, R103, R106), the backoff timer (R104),
and, once after a grant, the first motion with the arbiter's rake inrush timer (R101, R87). The purpose is that
of the grant, and the first motion is looked for in whatever moving state it comes. -/
def State.rakeMoves (s : State) (m : Member) : State :=
  let now := s.uptime
  let s' :=
    match s.rc.state, m with
    | .lowering, .second => s.mapRc fun r => { r with travel := some (now + s.item 38 * 1000) }
    | .raising, .first => s.mapRc fun r => { r with travel := some (now + s.item 39 * 1000) }
    | .homing, .first => s.mapRc fun r => { r with travel := some (now + s.item 39 * 1000) }
    | .jamBackoff, .second => s.mapRc fun r => { r with backoff := some (now + s.item 40 * 1000) }
    | _, _ => s
  if s.rc.firstPending && m == s.rc.purpose.firstMember then
    let s'' := s'.mapRc fun r => { r with firstPending := false }
    if s''.sa.holder = .rake then
      { s'' with sa := { s''.sa with rakeInrush := some (now + s.item 45 * 1000) } }
    else s''
  else s'

/-- Ask the guard for UP or DOWN; a grant given at once moves the rake (R77, R101). -/
def State.rakeAsk (s : State) (m : Member) : State :=
  let s' := s.guardAsk .rake m
  if (s'.pair .rake).on m && !(s.pair .rake).on m then s'.rakeMoves m else s'

/-- R103: entry to RAISING. -/
def State.rakeRaise (s : State) : State := (s.mapRc fun r => { r with state := .raising }).rakeAsk .first

/-- R98: the interval timer set to fall rake_interval_min minutes from now, or cleared where the item is 0. -/
def State.setInterval (s : State) : State :=
  s.mapRc fun r => { r with interval := if s.item 37 = 0 then none else some (s.uptime + s.item 37 * 60000) }

/-- R105: the owed count that the clean-screen rule gives at a completion. -/
def State.settledOwed (s : State) : Nat :=
  match s.liu.diff with
  | some v => if v < s.item 35 then 0 else s.rc.owed
  | none => s.rc.owed - 1

/-- R105: the completion of a cycle. -/
def State.rakeComplete (s : State) : State :=
  ((s.setOwed s.settledOwed).mapRc fun r => { r with retry := 0, discharge := none }).setInterval.rakePark

/-- R105: entry to DISCHARGE from RAISING. The rake leaves the moving states and reports itself stopped
(R101). With discharge_s at 0 the completion follows in this event. -/
def State.rakeDischarge (s : State) : State :=
  let s := ((s.guardRelease .rake .first).mapRc fun r => { r with state := .discharge, travel := none }).rakeStopped
  if s.item 41 = 0 then s.rakeComplete
  else s.mapRc fun r => { r with discharge := some (s.uptime + s.item 41 * 1000) }

/-- Table 6-2: the rake at a grant of the permit. -/
def State.rakeGranted (s : State) : State :=
  if s.rakeOverload then s.rakeLock .jam
  else
    match s.rc.purpose with
    | .cycle =>
      if s.rakeBottom then s.rakeLock .travel
      else (s.mapRc fun r => { r with state := .lowering, firstPending := true }).rakeAsk .second
    | .home =>
      if s.rakeTop then s.rakeStopped.rakePark
      else (s.mapRc fun r => { r with state := .homing, firstPending := true }).rakeAsk .first

/-- The top switch becomes active (R103, R106); in other states it has no effect. -/
def State.rakeTopActive (s : State) : State :=
  match s.rc.state with
  | .raising => s.rakeDischarge
  | .homing => ((s.guardRelease .rake .first).mapRc fun r => { r with travel := none }).rakeStopped.rakePark
  | _ => s

/-- The bottom switch becomes active: LOWERING goes on to RAISING (R102). -/
def State.rakeBottomActive (s : State) : State :=
  match s.rc.state with
  | .lowering => ((s.guardRelease .rake .second).mapRc fun r => { r with travel := none }).rakeRaise
  | _ => s

/-- The overload becomes active (R102, R103, R106); in other states it has no effect (R104, R105, R107). -/
def State.rakeOverloadActive (s : State) : State :=
  match s.rc.state with
  | .lowering => s.rakeLock .jam
  | .raising =>
    ((s.guardRelease .rake .first).mapRc fun r => { r with travel := none, state := .jamBackoff }).rakeAsk .second
  | .homing => s.rakeLock .jam
  | _ => s

/-- R104: the end of a backoff. -/
def State.rakeBackoffEnd (s : State) : State :=
  let s := (s.guardRelease .rake .second).mapRc fun r => { r with backoff := none, retry := r.retry + 1 }
  if s.item 42 < s.rc.retry then s.rakeLock .jam
  else if s.rakeOverload then s.rakeLock .jam
  else s.rakeRaise

/-- R108, R109, R113: where a rake goes by its selector and top switch. -/
def State.rakePlace (s : State) : State :=
  if !s.screenAuto then s.mapRc fun r => { r with state := .off, retry := 0 }
  else if s.rakeTop then s.rakePark
  else s.rakeWait .home

/-- R109: the screen selector's AUTO input changes. -/
def State.rakeSelector (s : State) : State :=
  if s.screenAuto then
    match s.rc.state with
    | .off => s.rakePlace
    | _ => s
  else
    match s.rc.state with
    | .locked => s
    | _ => (s.rakeDrop.rakeClearTimers.mapRc fun r => { r with state := .off, retry := 0 }).rakeStopped

/-- R110: the power source enters DEAD. -/
def State.rakeDead (s : State) : State :=
  match s.rc.state with
  | .off => s
  | .locked => s
  | .parked => s.rakeDrop.rakeClearTimers.mapRc fun r => { r with retry := 0 }
  | .waitPermit => s.rakeDrop.rakeClearTimers.mapRc fun r => { r with retry := 0 }
  | .lowering | .raising | .jamBackoff | .homing | .discharge => (s.rakeDrop.rakeClearTimers.rakeStopped).rakeWait .home

/-- R108: the end of a rake lockout. -/
def State.rakeUnlock (s : State) : State :=
  let c := s.rc.cause
  let s := s.mapRc fun r => { r with cause := .none }
  let s := match lockPoint c with
    | some n => s.post n false
    | none => s
  s.rakePlace

/-- R111: blinding at a recomputation of a valid differential. -/
def State.evalBlinding (s : State) (v : Nat) : State :=
  if s.item 43 ≤ v then
    if s.rc.blindTimer.isNone && !s.rc.blinded then
      s.mapRc fun r => { r with blindTimer := some (s.uptime + Config.blindingTime) }
    else s
  else (s.mapRc fun r => { r with blindTimer := none, blinded := false }).post 39 false

/-- R97: the start threshold at a recomputation of a valid differential. -/
def State.evalStart (s : State) (v : Nat) : State :=
  if v < s.item 35 then s.mapRc fun r => { r with armed := true }
  else if s.rc.armed then (s.mapRc fun r => { r with armed := false }).rakeAdd
  else s

/-- R97, R99, R111: the RC takes the differential that the LIU hands it at a recomputation or a change of
validity. -/
def State.rakeDiff (s : State) : State :=
  match s.liu.diff with
  | some v => ((s.evalStart v).evalForced).evalBlinding v
  | none => (s.mapRc fun r => { r with armed := true, blindTimer := none }).evalForced

end Sys2Proof.Machine
end

