-- ==== Sys2Proof/Machine/Starter.lean ====
section
/-! DEFINITION. The pump starter channels (chapter 4): joining the queue or the hand waiters, the start
sequence, stopping and rest, lockout, changes of command source, the dry-run cutout, the loss of supply and
the end of a simulation session at a channel. -/

namespace Sys2Proof.Machine

/-- R57: the channel discards a standing START and reports it, and the SU records the posted request as
none. A channel without a standing START has nothing to discard (notes/assumptions/32.md). -/
def State.discardStart (s : State) (p : Pump) : State :=
  if (s.ch.get p).standing then
    let s := s.mapCh p fun c => { c with standing := false }
    { s with su := { s.su with posted := s.su.posted.set p .none } }
  else s

/-- The pump leaves the start queue and the hand waiters (R81, R82). -/
def State.leaveQueues (s : State) (p : Pump) : State :=
  { s with sa := { s.sa with queue := s.sa.queue.filter (· != p), waiters := s.sa.waiters.filter (· != p) } }

/-- R57, R70: an IDLE channel tests whether to join the start queue, or the hand waiters under HAND. -/
def State.testJoin (s : State) (p : Pump) : State :=
  let c := s.ch.get p
  if c.state = .idle ∧ s.sa.power ≠ .dead then
    if c.source = .hand then
      let s := s.mapCh p fun c => { c with state := .queued }
      ({ s with sa := { s.sa with waiters := s.sa.waiters ++ [p] } }).askOffer
    else if c.staged && c.standing && !c.resting && s.lowMade then
      let s := s.mapCh p fun c => { c with state := .queued }
      ({ s with sa := { s.sa with queue := s.sa.queue ++ [p] } }).askOffer
    else s
  else s

/-- A channel entered into IDLE, or into UNAVAILABLE under source OFF: the timers and marks of a run cleared,
a rest that has passed dropped (R62), the gated mark cleared (notes/assumptions/18.md) and a pending set put
in force (R76). -/
def Chan.idleEntry (now : Nat) (c : Chan) : Chan :=
  { c with
    state := if c.source = .off then .unavailable else .idle
    deferred := false
    seqTimer := none
    fbDeadline := none
    gated := false
    rest := match c.rest with
      | some r => if now < r then some r else none
      | none => none
    force := c.pendingSet.getD c.force
    pendingSet := none }

/-- Entry to IDLE (or UNAVAILABLE), with the join test of each entry to IDLE (R57). -/
def State.goIdle (s : State) (p : Pump) : State := (s.mapCh p (Chan.idleEntry s.uptime)).testJoin p

/-- R62: LINE drops at its driver and STAR and DELTA are released at the guard. Where LINE had been active
the rest is set; where LINE was asked for under AUTO or MANUAL, or by a gated channel, an offer is due
(R83). The caller moves the channel on. The rest has the min_rest in force before a pending set that the entry to IDLE,
UNAVAILABLE or LOCKED_OUT in the same event puts in force (R76): DESIGN CHOICE, notes/assumptions/50.md. -/
def State.dropOutputs (s : State) (p : Pump) : State :=
  let c := s.ch.get p
  let s := (s.guardRelease (.pump p) .first).guardRelease (.pump p) .second
  if c.asksLine then
    let s := if c.gated then s else s.mapCh p fun c => { c with rest := some (s.uptime + c.force.minRest * 1000) }
    if c.gated || c.staged then s.askOffer else s
  else s

/-- The permit released if the pump holds it, and the outputs dropped. -/
def State.standDown (s : State) (p : Pump) : State := (s.releasePermit (.pump p)).dropOutputs p

/-- The feedback deadline fb_time from now; none is set while the source is DEAD (R62, R72). -/
def State.freshDeadline (s : State) : Option Nat :=
  if s.sa.power = .dead then none else some (s.uptime + s.item 29 * 1000)

/-- R62, R73: STOPPING after the outputs have dropped: the stop completes at once where the feedback is
inactive, as a gated channel's always is. -/
def State.awaitStop (s : State) (p : Pump) : State :=
  if (s.ch.get p).gated || !s.input (pumpInput p 2) then s.goIdle p
  else
    s.mapCh p fun c =>
      { c with state := .stopping, deferred := false, seqTimer := none, fbDeadline := s.freshDeadline }

/-- R62: entry to STOPPING from a start sequence or RUNNING; a start sequence releases the permit. -/
def State.enterStopping (s : State) (p : Pump) : State := (s.standDown p).awaitStop p

/-- A condition posted to the point of a lockout cause, where the cause has one (R67). -/
def State.postCause (s : State) (p : Pump) (k : Cause) (v : Bool) : State :=
  match causePoint p k with
  | some n => s.post n v
  | none => s

/-- R67: entry to LOCKED_OUT with a cause, and the replacement of a cause (R66). A rest set here has the min_rest that
was in force before the entry, which puts a pending set in force after it (R76): DESIGN CHOICE,
notes/assumptions/50.md. -/
def State.lockOut (s : State) (p : Pump) (k : Cause) : State :=
  let old := (s.ch.get p).cause
  let s := ((s.standDown p).leaveQueues p).discardStart p
  let s := s.mapCh p fun c =>
    { c with
      state := .lockedOut
      deferred := false
      seqTimer := none
      fbDeadline := none
      gated := false
      cause := k
      force := c.pendingSet.getD c.force
      pendingSet := none }
  (s.postCause p old false).postCause p k true

/-- R68: the end of a lockout: the cause's condition is false and the channel goes on by its feedback, its
source and its presence. -/
def State.endLockout (s : State) (p : Pump) : State :=
  let old := (s.ch.get p).cause
  let s := (s.mapCh p fun c => { c with cause := .none }).postCause p old false
  if s.present p && s.input (pumpInput p 2) then
    s.mapCh p fun c => { c with state := .stopping, fbDeadline := s.freshDeadline }
  else s.goIdle p

/-- R58, R59, R64: entry to RUNNING. -/
def State.enterRunning (s : State) (p : Pump) : State :=
  let s := s.mapCh p fun c => { c with state := .running, runningSince := s.uptime, seqTimer := none }
  let s := s.releasePermit (.pump p)
  let c := s.ch.get p
  let s :=
    if c.fbSeen && !s.feedback p then s.mapCh p fun c => { c with fbDeadline := some (s.uptime + s.item 29 * 1000) }
    else s
  let s :=
    if s.su.roster.head? = some p ∧ c.source = .auto ∧ c.gated = false then
      { s with su := { s.su with dutyStart := some s.uptime } }
    else s
  if c.deferred && c.force.minRun == 0 then s.enterStopping p else s

/-- What becoming active of STAR or DELTA does at the channel (R59): the star timer starts, or the channel
enters RUNNING. -/
def State.pumpMoves (s : State) (p : Pump) (m : Member) : State :=
  match m, (s.ch.get p).state with
  | .first, .star => s.mapCh p fun c => { c with seqTimer := some (s.uptime + c.force.starTime * 1000) }
  | .second, .changeover => s.enterRunning p
  | _, _ => s

/-- Ask the guard for STAR or DELTA; a grant given at once is taken at once (R59, R77). -/
def State.pumpAsk (s : State) (p : Pump) (m : Member) : State :=
  let s' := s.guardAsk (.pump p) m
  if (s'.pair (.pump p)).on m && !(s.pair (.pump p)).on m then s'.pumpMoves p m else s'

/-- R58, R59, R73: the start sequence begun in the grant event. The holder and the histories are the
arbiter's (R79, R86). -/
def State.beginStart (s : State) (p : Pump) : State :=
  let g := s.simOn && (s.ch.get p).source == .auto
  let s := s.mapCh p fun c =>
    { c with
      gated := g
      wear := if g then c.wear else { c.wear with starts := sat32 (c.wear.starts + 1) }
      fbSeen := false
      fbDeadline := some (s.uptime + s.item 29 * 1000)
      state := if c.force.starDelta then .star else .direct
      seqTimer := if c.force.starDelta then none else some (s.uptime + c.force.dolRunup * 1000) }
  let s := if s.feedback p then s.mapCh p fun c => { c with fbSeen := true, fbDeadline := none } else s
  if (s.ch.get p).force.starDelta then s.pumpAsk p .first else s

/-- R59: the star timer ends: STAR is released, DELTA asked for, and the channel enters CHANGEOVER. -/
def State.changeOver (s : State) (p : Pump) : State :=
  ((s.guardRelease (.pump p) .first).mapCh p fun c => { c with state := .changeover, seqTimer := none }).pumpAsk p .second

/-- R60: min_run has passed since the running-since uptime. -/
def Chan.minRunPassed (now : Nat) (c : Chan) : Bool := c.runningSince + c.force.minRun * 1000 ≤ now

/-- R57: a START taken by a channel. -/
def State.takeStart (s : State) (p : Pump) : State :=
  if (s.ch.get p).staged && s.lowMade then
    (s.mapCh p fun c => { c with standing := true, deferred := false }).testJoin p
  else { s with su := { s.su with posted := s.su.posted.set p .none } }

/-- R60: a STOP taken by a channel. -/
def State.takeStop (s : State) (p : Pump) : State :=
  let s := s.mapCh p fun c => { c with standing := false }
  let c := s.ch.get p
  match c.state with
  | .queued => (s.leaveQueues p).goIdle p
  | .direct | .star | .changeover => s.mapCh p fun c => { c with deferred := true }
  | .running =>
    if c.minRunPassed s.uptime then s.enterStopping p else s.mapCh p fun c => { c with deferred := true }
  | .idle | .unavailable | .stopping | .lockedOut => s

/-- R61: a STOP_NOW taken by a channel. -/
def State.takeStopNow (s : State) (p : Pump) : State :=
  let s := s.mapCh p fun c => { c with standing := false, deferred := false }
  match (s.ch.get p).state with
  | .queued => (s.leaveQueues p).goIdle p
  | .direct | .star | .changeover | .running => s.enterStopping p
  | .idle | .unavailable | .stopping | .lockedOut => s

/-- R57: the SU posts a request and the channel takes it; HAND and OFF discard it on arrival. -/
def State.postRequest (s : State) (p : Pump) (r : Req) : State :=
  let s := { s with su := { s.su with posted := s.su.posted.set p r } }
  if (s.ch.get p).staged then
    match r with
    | .none => s
    | .start => s.takeStart p
    | .stop => s.takeStop p
    | .stopNow => s.takeStopNow p
  else s

/-- R66: a thermal trip input of a present pump becomes active. -/
def State.thermalTrip (s : State) (p : Pump) : State :=
  if (s.ch.get p).cause = .trip then s else s.lockOut p .trip

/-- R62 to R64: a change of the real run feedback of a present pump that is not gated. A fall completes the stop of a
STOPPING channel while DEAD as well, though R72 gives feedback no supervision effect there: DESIGN CHOICE,
notes/assumptions/48.md. -/
def State.feedbackChange (s : State) (p : Pump) (active : Bool) : State :=
  let c := s.ch.get p
  if active then
    if c.asksLine then s.mapCh p fun c => { c with fbSeen := true, fbDeadline := none } else s
  else
    match c.state with
    | .running => if c.fbDeadline.isNone then s.lockOut p .runLost else s
    | .stopping => s.goIdle p
    | .unavailable | .idle | .queued | .direct | .star | .changeover | .lockedOut => s

/-- The cause a feedback deadline locks out with (R63 to R65). -/
def Chan.deadlineCause (c : Chan) : Cause :=
  if c.state = .stopping then .noStop else if c.fbSeen then .runLost else .noStart

/-- R73, R74: a gated channel returned to IDLE without rest, a sequence aborted and the permit released; the
join test is the caller's. -/
def State.ungate (s : State) (p : Pump) : State := (s.standDown p).mapCh p (Chan.idleEntry s.uptime)

/-- The channel's command source stored (R42). -/
def State.setSource (s : State) (p : Pump) (src : Source) : State := s.mapCh p fun c => { c with source := src }

/-- R69: a change of source to OFF, for a present pump. -/
def State.toOff (s : State) (p : Pump) : State :=
  match (s.ch.get p).state with
  | .idle | .unavailable => (s.setSource p .off).goIdle p
  | .queued => ((s.leaveQueues p).setSource p .off).goIdle p
  | .direct | .star | .changeover | .running => ((s.standDown p).setSource p .off).awaitStop p
  | .stopping => s.setSource p .off
  | .lockedOut =>
    if s.input (pumpInput p 3) then s.setSource p .off else (s.setSource p .off).endLockout p

/-- R69: a change of source to OFF from a commit that makes the pump absent. -/
def State.toAbsent (s : State) (p : Pump) : State :=
  match (s.ch.get p).state with
  | .lockedOut => (s.setSource p .off).endLockout p
  | .idle | .unavailable | .queued | .direct | .star | .changeover | .running | .stopping =>
    ((((s.standDown p).leaveQueues p).setSource p .off).goIdle p)

/-- R69: a change of source to HAND. A QUEUED channel passes through IDLE on its way to the hand waiters, so that a
pending set comes into force (R76): DESIGN CHOICE, notes/assumptions/39.md. -/
def State.toHand (s : State) (p : Pump) : State :=
  match (s.ch.get p).state with
  | .idle | .unavailable | .queued => ((s.leaveQueues p).setSource p .hand).goIdle p
  | .direct | .star | .changeover | .running | .stopping | .lockedOut => s.setSource p .hand

/-- R69: a change of source to AUTO or MANUAL. -/
def State.toStaged (s : State) (p : Pump) (src : Source) : State :=
  let c := s.ch.get p
  if c.source = .hand then
    match c.state with
    | .queued => ((s.leaveQueues p).setSource p src).goIdle p
    | .direct | .star | .changeover | .running => ((s.standDown p).setSource p src).awaitStop p
    | .unavailable | .idle | .stopping | .lockedOut => s.setSource p src
  else
    match c.state with
    | .unavailable => (s.setSource p src).goIdle p
    | .idle => (s.setSource p src).testJoin p
    | .queued | .direct | .star | .changeover | .running | .stopping | .lockedOut => s.setSource p src

/-- R42, R69, R73: the channel acts on a new command source. A gated channel first returns to IDLE without
rest; a change to OFF or HAND discards the standing request and any deferred stop. -/
def State.changeSource (s : State) (p : Pump) (src : Source) : State :=
  let c := s.ch.get p
  if src = c.source then s
  else
    let s := if c.gated then s.ungate p else s
    match src with
    | .auto => s.toStaged p .auto
    | .manual => s.toStaged p .manual
    | .hand => ((s.discardStart p).mapCh p fun c => { c with deferred := false }).toHand p
    | .off =>
      let s := (s.discardStart p).mapCh p fun c => { c with deferred := false }
      if s.present p then s.toOff p else s.toAbsent p

/-- R42: the SU re-derives a pump's command source and tells its channel. -/
def State.rederive (s : State) (p : Pump) : State := s.changeSource p (s.derivedSource p)

/-- R44: a pump's manual entry is removed and its source re-derived. -/
def State.removeEntry (s : State) (p : Pump) : State :=
  if (s.su.entry.get p).isSome then
    ({ s with su := { s.su with entry := s.su.entry.set p none } }).rederive p
  else s

/-- R71: the dry-run cutout begins, at one channel. -/
def State.cutout (s : State) (p : Pump) : State :=
  let c := s.ch.get p
  let s := if c.staged then s.discardStart p else s
  match c.state with
  | .direct | .star | .changeover | .running => s.enterStopping p
  | .queued => if c.staged then (s.leaveQueues p).goIdle p else s
  | .unavailable | .idle | .stopping | .lockedOut => s

/-- R72: the power source enters DEAD, at one channel. -/
def State.deadChannel (s : State) (p : Pump) : State :=
  if (s.ch.get p).state = .lockedOut then s
  else ((s.standDown p).leaveQueues p).mapCh p (Chan.idleEntry s.uptime)

/-- R74: the end of a session, at one channel. The simulation flag has been cleared. -/
def State.sessionEndChannel (s : State) (p : Pump) : State :=
  let c := s.ch.get p
  if c.gated then (s.discardStart p).ungate p
  else if c.state = .queued ∧ c.source = .auto then ((s.discardStart p).leaveQueues p).goIdle p
  else s

end Sys2Proof.Machine
end

