-- ==== Sys2Proof/Machine/Arbiter.lean ====
section
/-! DEFINITION. The Start Arbiter (5.1 to 5.5, 5.8): which start is allowed, the grant order, the grant and
its entries in the histories, and the end of a stagger. -/

namespace Sys2Proof.Machine

/-- The entries of a history younger than a window (R85). -/
def younger (now window : Nat) (h : List Nat) : Nat := (h.filter fun t => decide (now - t < window)).length

/-- R92: the start of this pump would be gated, so the simulation history stands in for the real ones. -/
def State.wouldGate (s : State) (p : Pump) : Bool := s.simOn && (s.ch.get p).source == .auto

/-- The simulation history, empty where none is held (R92). -/
def State.simHistory (s : State) : SimHist := s.sa.simHist.getD ⟨[], PerPump.const []⟩

/-- The station history that a pump's start is tested with (R85, R92). -/
def State.stationHist (s : State) (p : Pump) : List Nat :=
  (if s.wouldGate p then s.simHistory.station else s.sa.hist).map Prod.fst

/-- The pump history that a pump's start is tested with (R85, R92). -/
def State.ownHist (s : State) (p : Pump) : List Nat :=
  if s.wouldGate p then s.simHistory.pump.get p else s.sa.pumpHist.get p

/-- The count of lines that a pump's start is tested with (R85, R92). -/
def State.linesCounted (s : State) (p : Pump) : Nat :=
  if s.wouldGate p then s.limitedLines + s.gatedLines else s.limitedLines

/-- R85: the start of a queued pump is allowed, the LOW float apart. -/
def State.startAllowed (s : State) (p : Pump) : Bool :=
  decide (younger s.uptime (s.item 33 * 1000) (s.stationHist p) < s.item 32) &&
  decide (younger s.uptime Config.hourWindow (s.ownHist p) < (s.ch.get p).force.startsPerHour) &&
  decide (s.linesCounted p < s.sa.limit)

/-- R84: the claimant that an offer grants the permit to, by Table 5-2. -/
def State.choice (s : State) : Holder :=
  match (if s.lowMade then s.sa.waiters.head? else none) with
  | some p => .pump p
  | none =>
    if s.rakeWaiting && s.rc.forced then .rake
    else
      match (if s.lowMade then s.sa.queue.find? s.startAllowed else none) with
      | some p => .pump p
      | none =>
        if s.rakeWaiting && (s.sa.power != .generator || decide (s.limitedLines < s.item 28)) then .rake
        else .none

/-- An append to a history of capacity `cap`: the oldest entry goes where it is full (R86). -/
def pushHist {α : Type} (cap : Nat) (h : List α) (x : α) : List α :=
  (if h.length < cap then h else h.drop 1) ++ [x]

/-- R86, R92: the histories at a grant to a pump. A HAND grant appends nothing. -/
def State.recordStart (s : State) (p : Pump) : State :=
  let now := s.uptime
  if !(s.ch.get p).staged then s
  else if s.wouldGate p then
    let h := s.simHistory
    { s with
      sa := { s.sa with
        simHist := some
          { station := pushHist 8 h.station (now, p)
            pump := h.pump.set p (pushHist 12 (h.pump.get p) now) } } }
  else
    { s with
      sa := { s.sa with
        hist := pushHist 8 s.sa.hist (now, p)
        pumpHist := s.sa.pumpHist.set p (pushHist 12 (s.sa.pumpHist.get p) now) } }

/-- R79: the permit granted to a claimant, which begins in the same event (R58, R100). -/
def State.grant (s : State) (h : Holder) : State :=
  match h with
  | .none => s
  | .pump p =>
    let s := { (s.leaveQueues p) with sa := { (s.leaveQueues p).sa with holder := .pump p } }
    (s.recordStart p).beginStart p
  | .rake => ({ s with sa := { s.sa with holder := .rake } }).rakeGranted

/-- R83, R84: one offer: nothing while the permit is not free, else the grant order applied once. -/
def State.offer (s : State) : State := if s.permitFree then s.grant s.choice else s

/-- R80: the stagger in progress has run for stagger_s. -/
def State.staggerDue (s : State) : Bool :=
  s.sa.staggerOn &&
    match s.sa.lastRelease with
    | some t => t + s.item 31 * 1000 ≤ s.uptime
    | none => true

/-- R80: the stagger ends; an offer is due where the permit becomes free. -/
def State.endStagger (s : State) : State := ({ s with sa := { s.sa with staggerOn := false } }).askOffer

/-- R86: an entry of a history leaves its window at an uptime after `windowMark` and not after now. -/
def leavesNow (mark now window : Nat) (t : Nat) : Bool := decide (mark < t + window) && decide (t + window ≤ now)

/-- R86: some entry of a history has left its window since the last such event was taken. -/
def State.windowLeft (s : State) : Bool :=
  let w := s.item 33 * 1000
  let left := leavesNow s.sa.windowMark s.uptime
  s.sa.hist.any (fun e => left w e.1) ||
  Pump.all.any (fun p => (s.sa.pumpHist.get p).any (left Config.hourWindow)) ||
  s.simHistory.station.any (fun e => left w e.1) ||
  Pump.all.any (fun p => (s.simHistory.pump.get p).any (left Config.hourWindow))

end Sys2Proof.Machine
end

