-- ==== Sys2Proof/Machine/Staging.lean ====
section
/-! DEFINITION. The Staging Unit (chapter 3): stage flags and level demand, the rise flag, fallback, the
roster and its rotations, the handover, and the pass that brings demand, target and posted requests into
line within an event. -/

namespace Sys2Proof.Machine

/-- Apply a change to the Staging Unit. -/
def State.mapSu (s : State) (f : Su → Su) : State := { s with su := f s.su }

/-- R34: one stage flag against a level. -/
def flagAt (start stop level : Nat) (old : Bool) : Bool :=
  if start ≤ level then true else if level ≤ stop then false else old

/-- R34: the six flags against a level. -/
def State.flagsAt (s : State) (level : Nat) : List Bool :=
  (List.range 6).map fun i => flagAt (s.item (11 + i)) (s.item (17 + i)) level (s.su.flags.getD i false)

/-- R41: the six flags at an exit of fallback, by the band rule. -/
def State.bandFlags (s : State) (level : Nat) : List Bool :=
  (List.range 6).map fun i => flagAt (s.item (11 + i)) (s.item (17 + i)) level (decide (i + 1 ≤ s.su.lf))

/-- R34, R35: the flags take new values and D_level follows. -/
def State.setFlags (s : State) (fl : List Bool) : State :=
  let s := s.mapSu fun u => { u with flags := fl }
  s.mapSu fun u => { u with dLevel := s.levelDemand }

/-- R52: the end of a handover: STOP to each pump still outgoing, and the record discarded. -/
def State.endHandover (s : State) : State :=
  match s.su.handover with
  | none => s
  | some h =>
    (h.outgoing.foldl
      (fun s p => if (s.ch.get p).source = .auto then s.postRequest p .stop else s) s).mapSu
        fun u => { u with handover := none }

/-- R39: entry to fallback. -/
def State.enterFallback (s : State) (m : ModeChange) : State :=
  let lf := min s.autoLines s.sa.limit
  ((s.mapSu fun u => { u with fallback := true, quietFallback := false, lf := lf, rise := false }).endHandover).append
    (.mode m)

/-- R39, R55: a condition of fallback becomes true: entry, or the first record of a fallback that a reset
began with. -/
def State.fallbackCondition (s : State) (m : ModeChange) : State :=
  if !s.su.fallback then s.enterFallback m
  else if s.su.quietFallback then (s.mapSu fun u => { u with quietFallback := false }).append (.mode m)
  else s

/-- R41: both conditions of R39 are false and the level held is fresh. -/
def State.mayLeaveFallback (s : State) : Bool :=
  s.well.state != .init && s.well.state != .failed && !s.liu.levelDisagree && (s.su.fresh || s.simOn)

/-- R41: the exit of fallback where it may be taken. -/
def State.tryLeaveFallback (s : State) : State :=
  match s.su.level with
  | none => s
  | some l =>
    if s.su.fallback && s.mayLeaveFallback then
      let quiet := s.su.quietFallback
      let fl := s.bandFlags l
      let s := (s.mapSu fun u => { u with fallback := false, quietFallback := false }).setFlags fl
      if quiet then s else s.append (.mode .fallbackExit)
    else s

/-- R34, R37: the SU receives a new filtered level. -/
def State.suLevel (s : State) (l : Nat) : State :=
  let s := s.mapSu fun u => { u with level := some l, fresh := true }
  if s.su.fallback then s.tryLeaveFallback
  else
    let s := s.setFlags (s.flagsAt l)
    if l ≤ s.item 17 then s.mapSu fun u => { u with rise := false } else s

/-- R39, R41: WELL's state is reported to the SU as it changes. -/
def State.suReport (s : State) : State :=
  match s.well.state with
  | .good => s.tryLeaveFallback
  | .suspect => s.mapSu fun u => { u with fresh := false }
  | .init => (s.mapSu fun u => { u with fresh := false }).fallbackCondition .fallbackEnterWell
  | .failed => (s.mapSu fun u => { u with fresh := false }).fallbackCondition .fallbackEnterWell

/-- R40: the float changes that move the fallback latch, by input number 36 LOW, 37 HIGH, 38 HIGHHIGH. -/
def State.latchFloat (s : State) (k : Nat) : State :=
  if !s.su.fallback then s
  else
    match k, s.input k with
    | 36, false => s.mapSu fun u => { u with lf := 0 }
    | 37, true => s.mapSu fun u => { u with lf := max u.lf 1 }
    | 38, true => s.mapSu fun u => { u with lf := s.sa.limit }
    | 38, false => s.mapSu fun u => { u with lf := min u.lf 1 }
    | _, _ => s

/-- R36: the cap: the rated flows in force of the first D_level eligible pumps in roster order. -/
def State.cap (s : State) : Nat :=
  (((s.su.roster.filter s.eligible).take s.su.dLevel).map fun p => (s.ch.get p).force.ratedFlow).sum

/-- R36, R37: the rise flag at a balance tick with its estimate. -/
def State.riseTick (s : State) (est : Option Nat) : State :=
  let r :=
    match est, s.su.level with
    | some i, some l => !s.su.fallback && decide (s.cap * s.item 23 < i * 100) && decide (s.item 24 ≤ l)
    | _, _ => false
  s.mapSu fun u => { u with rise := r }

/-! ### The roster (3.7) -/

/-- R49: a pump's score. -/
def State.score (s : State) (p : Pump) : Nat :=
  min ((s.ch.get p).wear.runSeconds / 60 + (s.ch.get p).wear.starts * s.item 25) 2147483647

/-- R49: `a` stands before `b` at a sort. -/
def State.before (s : State) (a b : Pump) : Bool :=
  let la := (s.point (pumpPoint a 5)).state != .normal
  let lb := (s.point (pumpPoint b 5)).state != .normal
  if la != lb then !la
  else if s.score a != s.score b then decide (s.score a < s.score b)
  else decide (a.num < b.num)

/-- One pump put into its place in a sorted list (R49). -/
def insertBy (before : Pump → Pump → Bool) (p : Pump) : List Pump → List Pump
  | [] => [p]
  | q :: qs => if before p q then p :: q :: qs else q :: insertBy before p qs

/-- R49: the present pumps, sorted. -/
def State.sortedRoster (s : State) : List Pump := (Pump.all.filter s.present).foldr (insertBy s.before) []

/-- R50, R51: the first pump of the roster is RUNNING under AUTO with its LINE active. -/
def State.firstRuns (s : State) : Bool :=
  match s.su.roster.head? with
  | some p => (s.ch.get p).state == .running && (s.ch.get p).source == .auto && (s.ch.get p).lineActive
  | none => false

/-- R49, R50: a sort with what goes with every rotation and every sort at a commit. The target follows in
the pass that called it. -/
def State.rotate (s : State) : State :=
  let s := s.mapSu fun u => { u with roster := s.sortedRoster, deferredRot := false }
  s.mapSu fun u => { u with dutyStart := if s.firstRuns then some s.uptime else none }

/-- The AUTO pumps of the target (R52). -/
def State.autoTarget (s : State) : List Pump := s.su.target.filter fun p => (s.ch.get p).source == .auto

/-- R52: a rotation with handover. -/
def State.rotateHandover (s : State) : State :=
  let old := s.autoTarget
  let s := s.rotate
  let new := s.targetSet
  let out := old.filter fun p => !new.contains p
  let inc := new.filter fun p => !old.contains p
  let s := s.mapSu fun u => { u with target := new }
  if out.isEmpty then s
  else s.mapSu fun u => { u with handover := some { outgoing := out, incoming := inc, start := s.uptime } }

/-! ### The pass of an event (R38, R46, R47, R50 to R52) -/

/-- R50: a cycle end reported in this event is taken: a rotation. -/
def State.takeCycleEnd (s : State) : State :=
  if s.work.cycleEnd then { s.rotate with work := { s.rotate.work with cycleEnd := false } } else s

/-- R51: the duty-hold start is cleared where the first pump no longer runs under AUTO with LINE active. -/
def State.checkDuty (s : State) : State :=
  if s.firstRuns then s else s.mapSu fun u => { u with dutyStart := none }

/-- R38, R51: demand recomputed; a change first re-tries a deferred rotation. -/
def State.recomputeDemand (s : State) : State :=
  let d := s.demand
  if d = s.su.d then s
  else
    let s := s.mapSu fun u => { u with d := d }
    if s.su.deferredRot && decide (d < s.sa.limit) then s.rotateHandover else s

/-- R46: the target recomputed. -/
def State.retarget (s : State) : State := s.mapSu fun u => { u with target := s.targetSet }

/-- R52: an incoming pump has reached RUNNING or has locked out. -/
def State.arrived (s : State) (p : Pump) : Bool := (s.ch.get p).state == .running || (s.ch.get p).state == .lockedOut

/-- R52: an outgoing pump is still going out: it is outside the target, under AUTO, and neither stopped nor
locked out. -/
def State.stillOut (s : State) (p : Pump) : Bool :=
  let c := s.ch.get p
  !s.su.target.contains p && c.source == .auto && (c.asksLine || c.state == .queued)

/-- R52: the handover's lists brought up to date, and its end where an incoming pump has arrived or none is
left. The pumps still outgoing take their STOP as the posts follow. The target has been recomputed before, so that an
outgoing pump that the same event brings back into it keeps running: DESIGN CHOICE, notes/assumptions/47.md. -/
def State.stepHandover (s : State) : State :=
  match s.su.handover with
  | none => s
  | some h =>
    let inc := h.incoming.filter fun p => s.su.target.contains p
    let out := h.outgoing.filter s.stillOut
    if h.incoming.any s.arrived || inc.isEmpty then s.mapSu fun u => { u with handover := none }
    else s.mapSu fun u => { u with handover := some { h with outgoing := out, incoming := inc } }

/-- R52: the pump is an outgoing pump of the handover in progress. -/
def State.outgoing (s : State) (p : Pump) : Bool :=
  match s.su.handover with
  | some h => h.outgoing.contains p
  | none => false

/-- R46, R47: the request that brings one pump into line, if one is to be posted. -/
def State.wanted (s : State) (p : Pump) : Option Req :=
  let c := s.ch.get p
  let posted := s.su.posted.get p
  match c.source with
  | .auto =>
    if s.su.target.contains p then if posted = .start then none else some .start
    else if posted = .start && !s.outgoing p then some .stop
    else none
  | .manual =>
    match s.su.entry.get p with
    | some e =>
      match e.act with
      | .run =>
        if posted = .start || c.resting || !s.lowMade || c.state = .lockedOut then none else some .start
      | .stop => if posted = .stopNow then none else some .stopNow
    | none => none
  | .hand => none
  | .off => none

/-- R46, R47: one pump brought into line. -/
def State.postOne (s : State) (p : Pump) : State :=
  match s.wanted p with
  | some r => s.postRequest p r
  | none => s

/-- R50: the mark of a cycle end where a change took the AUTO lines from at least one to none. -/
def State.watchCycle (before after : State) : State :=
  if 0 < before.autoLines ∧ after.autoLines = 0 then { after with work := { after.work with cycleEnd := true } }
  else after

/-- R46: every present pump brought into line, in roster order. In the event that leaves DEAD the channels that join by
R72's ascending test stand before those that join at these posts: DESIGN CHOICE, notes/assumptions/49.md. -/
def State.postAll (s : State) : State := s.watchCycle (s.su.roster.foldl State.postOne s)

/-- One pass of the SU over what an event has changed. R52 does not order the recomputation of the target and the end
of a handover within one event: notes/assumptions/47.md. -/
def State.suPass (s : State) : State :=
  s.takeCycleEnd.checkDuty.recomputeDemand.retarget.stepHandover.postAll

/-- The SU's passes of an event: a post can itself change eligibility or end a cycle, so the pass is made
again; notes/assumptions/6.md says why three suffice. -/
def State.settle (s : State) : State := s.suPass.suPass.suPass

/-- The end of an event: the SU settles, then the offer that the event called for is made (R83). `old` is
the state the event began in, for the cycle end (R50). -/
def State.finish (old s : State) : State :=
  let s := (old.watchCycle s).settle
  let s := if s.work.offer then s.offer else s
  { s with work := ⟨false, false⟩ }

/-! ### Duty hold (R51) -/

/-- R51: the duty-hold start has run duty_hold_h. -/
def State.dutyDue (s : State) : Bool :=
  match s.su.dutyStart with
  | some t => s.item 26 != 0 && decide (t + s.item 26 * 3600000 ≤ s.uptime)
  | none => false

/-- R51: a duty-hold expiry. -/
def State.dutyExpiry (s : State) : State :=
  if s.su.d < s.sa.limit then s.rotateHandover
  else s.mapSu fun u => { u with deferredRot := true, dutyStart := none }

end Sys2Proof.Machine
end

