-- ==== Sys2Proof/Machine/Supply.lean ====
section
/-! DEFINITION. The Power Supervisor (5.6, 5.7): the running limit and the stop of an excess, a change of
power source, the clearing of a dead station, and the restart hold. -/

namespace Sys2Proof.Machine

/-- Apply a change to block SA. -/
def State.mapSa (s : State) (f : Sa → Sa) : State := { s with sa := f s.sa }

/-- R90: the AUTO pumps with LINE active in a start sequence or in RUNNING, last in the roster first. -/
def State.autoExcess (s : State) (seq : Bool) : List Pump :=
  s.su.roster.reverse.filter fun p =>
    let c := s.ch.get p
    c.source == .auto && c.lineActive && c.inSequence == seq

/-- A manual entry's place in the order of making; a pump without an entry comes last (R90). -/
def State.madeAt (s : State) (p : Pump) : Nat :=
  match s.su.entry.get p with
  | some e => e.stamp + 1
  | none => 0

/-- R90: the MANUAL pumps with LINE active, the most recently made entry first. -/
def State.manualExcess (s : State) : List Pump :=
  (Pump.all.filter fun p => (s.ch.get p).source == .manual && (s.ch.get p).lineActive).foldr
    (insertBy fun a b => decide (s.madeAt b < s.madeAt a)) []

/-- R90: one chosen channel takes the stop as a STOP_NOW, and reports the discard of its standing request. -/
def State.stopExcess (s : State) (p : Pump) : State := (s.discardStart p).takeStopNow p

/-- R90: the excess over a lowered limit is stopped. -/
def State.shedExcess (s : State) : State :=
  let chosen := s.autoExcess true ++ s.autoExcess false ++ s.manualExcess
  (chosen.take (s.limitedLines - s.sa.limit)).foldl State.stopExcess s

/-- R88, R90, R52: the running limit takes a new value: a change ends a handover, a rise makes an offer and
a fall stops the excess. A fall to a dead source is R89's. -/
def State.setLimit (s : State) (n : Nat) : State :=
  let old := s.sa.limit
  if n = old then s
  else
    let s := s.endHandover.mapSa fun a => { a with limit := n }
    if old < n then s.askOffer
    else if s.sa.power = .dead then s
    else s.shedExcess

/-- R89: the permit, the lists, the rake inrush timer and the hold cleared, the last release taken as run. -/
def State.clearPermit (s : State) : State :=
  s.mapSa fun a =>
    { a with
      holder := .none
      lastRelease := none
      staggerOn := false
      rakeInrush := none
      queue := []
      waiters := []
      hold := none }

/-- R72, R89, R110: the station cleared on entry to DEAD. -/
def State.clearStation (s : State) : State := ((Pump.all.foldl State.deadChannel s).clearPermit).rakeDead

/-- R91: a restart hold begins; with restart_hold_s at 0 it ends in this event. -/
def State.beginHold (s : State) : State :=
  if s.item 34 = 0 then s.staggerRun.askOffer
  else s.mapSa fun a => { a with hold := some (s.uptime + s.item 34 * 1000) }

/-- R91: the end of a restart hold. -/
def State.endHold (s : State) : State := ((s.mapSa fun a => { a with hold := none }).staggerRun).askOffer

/-- R72, R83, R91: what a change of source does beyond the limit, the alarm and the record. The ascending test of R72
comes here, before the SU's posts of the event (R46): DESIGN CHOICE, notes/assumptions/49.md. -/
def State.sourceEffects (s : State) (old new : Power) : State :=
  match new, old with
  | .dead, _ => s.clearStation
  | _, .dead => Pump.all.foldl State.testJoin s.beginHold
  | _, _ => s.askOffer

/-- R88: the power source re-derived, with everything a change of it brings. -/
def State.changePower (s : State) : State :=
  let new := s.derivedPower
  let old := s.sa.power
  if new = old then s
  else
    let s := s.mapSa fun a => { a with power := new }
    let s := (s.setLimit (s.limitFor new)).sourceEffects old new
    (s.post 40 (new != .mains)).append (.mode (.power old new))

end Sys2Proof.Machine
end

