-- ==== Sys2Proof/Machine/Balance.lean ====
section
/-! DEFINITION. The Balance Engine (chapter 2): interpolation, the flow tick, the balance tick and the
summaries. -/

namespace Sys2Proof.Machine

/-- Apply a change to the Balance Engine. -/
def State.mapBe (s : State) (f : Be → Be) : State := { s with be := f s.be }

/-- R19: piecewise-linear interpolation in a table of points (x, y). -/
def interp : List (Nat × Nat) → Nat → Nat
  | [], _ => 0
  | [a], _ => a.2
  | a :: b :: rest, x => if x < b.1 then a.2 + (x - a.1) * (b.2 - a.2) / (b.1 - a.1) else interp (b :: rest) x

/-- R19: vol(L). -/
def State.volAt (s : State) (l : Nat) : Nat := interp s.be.vol l

/-- R19: weir(h). -/
def State.weirAt (s : State) (h : Nat) : Nat := interp s.be.weir h

/-- R20: the rated flow in force of the present pumps that a test picks. -/
def State.flowOf (s : State) (runs : Pump → Bool) : Nat :=
  ((Pump.all.filter fun p => s.present p && runs p).map fun p => (s.ch.get p).force.ratedFlow).sum

/-- R21: the spill of this second by the level the BE holds. -/
def State.spillNow (s : State) : Nat :=
  match s.be.level with
  | some l => if s.wellGood && decide (s.be.crest < l) then s.weirAt (l - s.be.crest) else 0
  | none => 0

/-- R21, R23: the spill that is metered and handed on: none during simulation. -/
def State.spillMetered (s : State) : Nat := if s.simOn then 0 else s.spillNow

/-- R75: the run seconds of one pump at a flow tick. -/
def State.runSecond (s : State) (p : Pump) : State :=
  if s.present p && s.input (pumpInput p 2) then
    s.mapCh p fun c => { c with wear := { c.wear with runSeconds := sat32 (c.wear.runSeconds + 1) } }
  else s

/-- R23, R117: metered spill handed to the open event or to the pre-event spill. -/
def State.handSpill (s : State) (q : Nat) : State :=
  match s.om.event with
  | some e => { s with om := { s.om with event := some { e with spill := sat32 (e.spill + q) } } }
  | none => s.mapBe fun b => { b with preSpill := b.preSpill + q }

/-- R24, R117: one unmeasured second posted where WELL is not GOOD, the WEIR float is made and an event is
open. -/
def State.unmeasuredSecond (s : State) : State :=
  match s.om.event with
  | some e =>
    if !s.wellGood && s.weirMade then
      { s with om := { s.om with event := some { e with unmeasured := sat32 (e.unmeasured + 1) } } }
    else s
  | none => s

/-- R20 to R24, R75: the effects of a flow tick. -/
def State.flowTick (s : State) : State :=
  let q := s.spillNow
  let qm := s.spillMetered
  let s := s.mapBe fun b =>
    { b with
      p := sat32 (b.p + s.flowOf s.feedback)
      meteredP := sat32 (b.meteredP + s.flowOf fun p => s.input (pumpInput p 2))
      w := b.w + q
      meteredW := b.meteredW + qm
      ticks := b.ticks + 1
      nextFlow := b.nextFlow + 1000 }
  ((Pump.all.foldl State.runSecond s).handSpill qm).unmeasuredSecond

/-- R25, R26: the estimate of the interval that closes. -/
def State.estimateNow (s : State) : Option Nat :=
  match s.be.valid, s.be.vStart, s.be.level with
  | true, some v, some l =>
    let inflow := s.volAt l + s.be.p + s.be.w
    some (min 65535 ((inflow - v) / s.be.t))
  | _, _, _ => none

/-- R29: the summary after a balance tick's additions. -/
def addToSummary (m : Summary) (b : Be) (est : Option Nat) : Summary :=
  let m := { m with pumped := sat32 (m.pumped + b.meteredP), spilled := sat32 (m.spilled + b.meteredW) }
  match est with
  | some i => if m.sumT + b.t ≤ 65535 then { m with sumIT := m.sumIT + i * b.t, sumT := m.sumT + b.t } else m
  | none => m

/-- R25 to R29, R36: the effects of a balance tick. -/
def State.balanceTick (s : State) : State :=
  let est := s.estimateNow
  let v := if s.wellGood then s.be.level.map s.volAt else none
  (s.mapBe fun b =>
    { b with
      estimate := est
      lastP := b.p
      lastW := b.w
      lastValid := est.isSome
      sum := addToSummary b.sum b est
      vStart := v
      p := 0
      w := 0
      meteredP := 0
      meteredW := 0
      ticks := 0
      valid := v.isSome && !s.simOn
      t := s.item 50 }).riseTick est

/-- R22: the validity mark of the open interval is cleared. -/
def State.spoilInterval (s : State) : State := s.mapBe fun b => { b with valid := false }

/-- R6, R29: the BE receives a real filtered level of WELL outside simulation. -/
def State.beLevel (s : State) (l : Nat) : State :=
  s.mapBe fun b =>
    { b with
      level := some l
      sum := { b.sum with highest := match b.sum.highest with
        | some h => some (max h l)
        | none => some l } }

/-- A summary begun now (R30, R31). -/
def State.newSummary (s : State) : Summary :=
  { startUp := s.uptime, startTime := s.clockTime, pumped := 0, spilled := 0, highest := none, sumIT := 0, sumT := 0 }

/-- R31: the SUMMARY record of the summary that closes. -/
def State.summaryBody (s : State) (aligned : Bool) : Body :=
  let m := s.be.sum
  .summary m.startTime ((s.uptime - m.startUp) / 1000) aligned m.pumped m.spilled m.highest
    (if m.sumT = 0 then none else some (m.sumIT / m.sumT)) m.sumT

/-- R30, R31: a summary boundary. -/
def State.closeSummary (s : State) (aligned : Bool) : State :=
  let s := s.append (s.summaryBody aligned)
  s.mapBe fun b => { b with sum := s.newSummary, boundaryDue := false }

/-- R30: with the clock invalid, summary_min of uptime have passed since the summary began. -/
def State.summaryElapsed (s : State) : Bool :=
  !s.rl.clockValid && decide (s.be.sum.startUp + s.item 51 * 60000 ≤ s.uptime)

end Sys2Proof.Machine
end

