-- ==== Sys2Proof/Machine/Overflow.lean ====
section
/-! DEFINITION. The Overflow Monitor (7.1): the two debounces, the event record, its opening, its updates and
its closing. -/

namespace Sys2Proof.Machine

/-- Apply a change to the Overflow Monitor. -/
def State.mapOm (s : State) (f : Om → Om) : State := { s with om := f s.om }

/-- R115: an open debounce begins: the pre-event spill becomes 0. -/
def State.beginOpening (s : State) : State :=
  (s.mapOm fun o =>
    { o with
      state := .opening
      openTimer := some (s.uptime + s.item 48 * 1000)
      debounce := some (s.uptime, s.clockTime) }).mapBe fun b => { b with preSpill := 0 }

/-- R114, R115, R118: one evaluation of the two conditions. -/
def State.omEvaluate (s : State) : State :=
  match s.om.state with
  | .quiet => if s.overflowNow then s.beginOpening else s
  | .opening => if s.overflowNow then s else s.mapOm fun o => { o with state := .quiet, openTimer := none }
  | .opened =>
    if s.closeNow then s.mapOm fun o => { o with state := .closing, closeTimer := some (s.uptime + s.item 49 * 1000) }
    else s
  | .closing => if s.closeNow then s else s.mapOm fun o => { o with state := .opened, closeTimer := none }

/-- R116: the record of an event that opens now. -/
def State.newEvent (s : State) : Event :=
  let start := s.om.debounce.getD (s.uptime, s.clockTime)
  let level := if s.wellGood then s.well.level else none
  { num := s.om.nextNum
    startUp := start.1
    startTime := start.2
    openLevel := level
    peak := level
    spill := sat32 s.be.preSpill
    unmeasured := 0
    elapsed := (s.uptime - start.1) / 1000
    lastTime := s.clockTime }

/-- The next whole second of uptime (R117). -/
def State.nextSecond (s : State) : Nat := (s.uptime / 1000 + 1) * 1000

/-- R116: the event opens. -/
def State.openEvent (s : State) : State :=
  let e := s.newEvent
  let s := s.mapOm fun o =>
    { o with
      state := .opened
      openTimer := none
      event := some e
      nextNum := if o.nextNum = 65535 then 1 else o.nextNum + 1
      nextUpdate := s.nextSecond }
  let s := s.mapBe fun b => { b with preSpill := 0 }
  (s.append (.overflowOpen e.num e.openLevel)).post 33 true

/-- R117: the peak follows a new filtered level of WELL taken while WELL is GOOD. -/
def State.omPeak (s : State) (l : Nat) : State :=
  match s.om.event with
  | some e =>
    s.mapOm fun o => { o with event := some { e with peak := match e.peak with
      | some k => some (max k l)
      | none => some l } }
  | none => s

/-- R117: the whole-second update of the open record. -/
def State.updateEvent (s : State) : State :=
  match s.om.event with
  | some e =>
    s.mapOm fun o =>
      { o with
        event := some { e with elapsed := (s.uptime - e.startUp) / 1000, lastTime := s.clockTime }
        nextUpdate := s.nextSecond }
  | none => s

/-- R118: the event closes with end reason NORMAL. -/
def State.closeEvent (s : State) : State :=
  match s.om.event with
  | some e =>
    let body := Body.overflowClose e.num s.clockTime ((s.uptime - e.startUp) / 1000) e.spill e.peak e.unmeasured .normal
    let s := (s.append body).post 33 false
    s.mapOm fun o => { o with state := .quiet, closeTimer := none, event := none }
  | none => s.mapOm fun o => { o with state := .quiet, closeTimer := none }

/-- R116: the open timer has ended in OPENING, so the event opens. -/
def State.openDue (s : State) : Bool := s.om.state == .opening && s.reached s.om.openTimer

/-- R118: the close timer has ended in CLOSING, so the event closes. -/
def State.closeDue (s : State) : Bool := s.om.state == .closing && s.reached s.om.closeTimer

end Sys2Proof.Machine
end

