-- ==== Sys2Proof/Machine/Session.lean ====
section
/-! DEFINITION. The simulation session (1.4) with its effects at the BE, the SU, the channels and the
arbiter: entry, new substitute levels, and the end. -/

namespace Sys2Proof.Machine

/-- Apply a change to the Level and Input Unit. -/
def State.mapLiu (s : State) (f : Liu → Liu) : State := { s with liu := f s.liu }

/-- R14: the entry conditions in the order R14 lists them, with their numbers (Table 9-2). -/
def State.simConditions (s : State) : List (Nat × Bool) :=
  [(1, s.wellGood),
   (2, match s.well.level with
     | some l => decide (l < s.item 17)
     | none => false),
   (3, s.autoLines == 0),
   (4, s.om.event.isNone),
   (5, !s.highMade)]

/-- R14: the number of the first entry condition that fails. -/
def State.simObstacle (s : State) : Option Nat := (s.simConditions.find? fun c => !c.2).map Prod.fst

/-- A requested level, taken as 20000 where it is above it (R14, R15). -/
def clampLevel (n : Nat) : Nat := min n 20000

/-- R14: a session begins with its substitute levels, which are already clamped. -/
def State.simStart (s : State) (well inlet : Nat) : State :=
  let s := s.mapLiu fun u => { u with sim := some ⟨well, inlet, s.uptime⟩ }
  let s := (s.post 46 true).append (.mode .simEnter)
  let s := s.mapBe fun b => { b with valid := false, level := some well }
  let s := s.mapSa fun a => { a with simHist := some ⟨[], PerPump.const []⟩ }
  s.suLevel well

/-- R15: new substitute levels, which are already clamped, during a session. -/
def State.simSetLevels (s : State) (well inlet : Nat) : State :=
  match s.liu.sim with
  | some m =>
    let s := s.mapLiu fun u => { u with sim := some { m with well := well, inlet := inlet } }
    (s.mapBe fun b => { b with level := some well }).suLevel well
  | none => s

/-- R16, R53: the SU receives WELL's real filtered level, held or stale as it may be, as a new filtered level at
the end of a session (R34), or its absence. -/
def State.suRealLevel (s : State) : State :=
  match s.well.level with
  | none => s.mapSu fun u => { u with level := none, fresh := false }
  | some l => s.suLevel l

/-- R16: the session ends for a reason. -/
def State.simEnd (s : State) (r : ExitReason) : State :=
  if s.simOn then
    let s := s.mapLiu fun u => { u with sim := none }
    let s := (s.post 46 false).append (.mode (.simExit r))
    let s := s.mapBe fun b => { b with valid := false, level := s.well.level }
    let s := Pump.all.foldl State.sessionEndChannel s
    let s := (s.mapSa fun a => { a with simHist := none }).endHandover
    s.suRealLevel
  else s

end Sys2Proof.Machine
end

