-- ==== Sys2Proof/Machine/Levels.lean ====
section
/-! DEFINITION. The level channels and the debounced inputs (1.1 to 1.3): one sample at a channel and its
consumers, the screen differential, raw changes, input changes and the disagreement timer. -/

namespace Sys2Proof.Machine

/-! ### Level channels (R1 to R6) -/

/-- R1: a count that is a good sample. -/
def goodCount (raw : Nat) : Bool := 580 ≤ raw && raw ≤ 3890

/-- R1: the level of a good sample. -/
def Cal.levelOf (c : Cal) (raw : Nat) : Nat :=
  if raw ≤ c.zero then 0 else min 20000 ((raw - c.zero) * c.spanMm / c.span)

/-- R2: the filtered level of a history. -/
def meanLevel (h : List Nat) : Nat := h.sum / h.length

/-- R2: a good level joins a history of at most 8. -/
def joinHist (h : List Nat) (l : Nat) : List Nat := pushHist 8 h l

/-- R2: the channel in GOOD with a history and the filtered level computed from it. -/
def LevelChan.publish (c : LevelChan) (h : List Nat) : LevelChan :=
  { c with state := .good, hist := h, level := some (meanLevel h) }

/-- R3 to R5: a good sample of level `l`; the flag says that a new filtered level is published. -/
def LevelChan.takeGood (c : LevelChan) (l : Nat) : LevelChan × Bool :=
  let h := joinHist c.hist l
  match c.state with
  | .init =>
    let c := { c with goodRun := c.goodRun + 1, faultRun := 0 }
    if 8 ≤ c.goodRun then (c.publish h, true) else ({ c with hist := h }, false)
  | .good => (c.publish h, true)
  | .suspect => (({ c with faultRun := 0 }).publish h, true)
  | .failed =>
    let c := { c with goodRun := c.goodRun + 1 }
    if 8 ≤ c.goodRun then (c.publish h, true) else ({ c with hist := h }, false)

/-- R5: entry to FAILED. The filtered level keeps its value, absent from INIT. -/
def LevelChan.fail (c : LevelChan) : LevelChan := { c with state := .failed, hist := [], goodRun := 0, faultRun := 0 }

/-- R3 to R5: a fault sample. -/
def LevelChan.takeFault (c : LevelChan) : LevelChan :=
  match c.state with
  | .init =>
    let c := { c with hist := [], goodRun := 0, faultRun := c.faultRun + 1 }
    if 8 ≤ c.faultRun then c.fail else c
  | .good => { c with state := .suspect, faultRun := 1 }
  | .suspect =>
    let c := { c with faultRun := c.faultRun + 1 }
    if 8 ≤ c.faultRun then c.fail else c
  | .failed => { c with hist := [], goodRun := 0 }

/-- R1 to R5: one sample at a channel, and whether it publishes a new filtered level. -/
def LevelChan.sample (c : LevelChan) (raw : BitVec 12) : LevelChan × Bool :=
  let c := { c with raw := raw }
  if goodCount raw.toNat then c.takeGood (c.cal.levelOf raw.toNat) else (c.takeFault, false)

/-- R13: the differential of two filtered levels, floored at 0; none unless both are present. -/
def differential (well inlet : Option Nat) : Option Nat :=
  match well, inlet with
  | some w, some i => some (i - w)
  | _, _ => none

/-- R13: the differential after a sample of either channel: recomputed at a new filtered level with both
GOOD, invalid where either is not GOOD. Each recomputation and each change of validity goes to the RC. -/
def State.evalDiff (s : State) (published : Bool) : State :=
  let w := s.liu.chan.well
  let i := s.liu.chan.inlet
  if w.state == .good && i.state == .good then
    if published then (s.mapLiu fun u => { u with diff := differential w.level i.level }).rakeDiff else s
  else if s.liu.diff.isSome then (s.mapLiu fun u => { u with diff := none }).rakeDiff
  else s

/-- R6, R15, R16: a new filtered level of WELL goes to the BE outside simulation and to the exit check of a
session; the peak of an open event follows it (R117). -/
def State.levelToConsumers (s : State) (l : Nat) : State :=
  let s := if s.simOn then (if s.item 11 ≤ l then s.simEnd .realLevel else s) else s.beLevel l
  s.omPeak l

/-- R6, R39, R34, R15: WELL's state change, and outside simulation its new filtered level, reach the SU. In
simulation a filtered level that WELL publishes hands the SU nothing, so a fresh mark cleared by SUSPECT stays clear
until SIM_SET or the end of the session: DESIGN CHOICE, notes/assumptions/24.md. In one sample the report comes before
the new level, which R6 leaves open and where R41 does not hold for a stale level that the end of a session handed over
as fresh (R16): DESIGN CHOICE, notes/assumptions/46.md. -/
def State.wellToStaging (s : State) (changed : Bool) (level : Option Nat) : State :=
  let s := if changed then s.suReport else s
  match level with
  | some l => if s.simOn then s else s.suLevel l
  | none => s

/-- R1 to R7, R12 to R16, R22, R114: a sample of WELL with all its consumers. R6 gives them no order: the model takes
the LIU's own posts, then RC, BE and OM, and last the SU (DESIGN CHOICE, notes/assumptions/38.md). -/
def State.sampleWell (s : State) (raw : BitVec 12) : State :=
  let old := s.well.state
  let r := s.well.sample raw
  let s := s.mapLiu fun u =>
    { u with chan := { u.chan with well := r.1 }, nextSample := { u.nextSample with well := u.nextSample.well + Config.samplePeriod } }
  let changed := old != s.well.state
  let level := if r.2 then s.well.level else none
  let s := if s.wellGood then s else s.spoilInterval
  let s := if changed then s.postSensor .well else s
  let s := if changed || r.2 then s.evalHigh.evalDisagree else s
  let s := s.evalDiff r.2
  let s := match level with
    | some l => s.levelToConsumers l
    | none => s
  let s := if changed || r.2 then s.omEvaluate else s
  s.wellToStaging changed level

/-- R1 to R7, R13: a sample of INLET with its consumers. -/
def State.sampleInlet (s : State) (raw : BitVec 12) : State :=
  let old := s.liu.chan.inlet.state
  let r := s.liu.chan.inlet.sample raw
  let s := s.mapLiu fun u =>
    { u with chan := { u.chan with inlet := r.1 }, nextSample := { u.nextSample with inlet := u.nextSample.inlet + Config.samplePeriod } }
  let s := if old != r.1.state then s.postSensor .inlet else s
  s.evalDiff r.2

/-! ### Inputs (R9 to R12) -/

/-- A set of 40 inputs or flags with the bit of input `k` made `v`. -/
def putBit (x : BitVec 40) (k : Nat) (v : Bool) : BitVec 40 :=
  let m := BitVec.ofNat 40 (2 ^ k)
  if v then x ||| m else x &&& ~~~m

/-- R9: the debounce interval of input `k`. -/
def debounceTime (k : Nat) : Nat := if k < 36 then Config.contactDebounce else Config.floatDebounce

/-- R9: a raw input takes a value; a change begins a new interval. -/
def State.rawChange (s : State) (k : Nat) (v : Bool) : State :=
  if s.liu.raw.getLsbD k = v then s
  else s.mapLiu fun u => { u with raw := putBit u.raw k v, rawSince := u.rawSince.set k s.uptime }

/-- R9: the raw input has held a value other than the debounced one for the debounce interval. -/
def State.inputDue (s : State) (k : Nat) : Bool :=
  s.liu.raw.getLsbD k != s.liu.deb.getLsbD k && decide (s.liu.rawSince.getD k 0 + debounceTime k ≤ s.uptime)

/-- R9, R11: the debounced state of input `k` takes the raw value and both ports' flags are set. -/
def State.takeInput (s : State) (k : Nat) : State :=
  s.mapLiu fun u =>
    { u with
      deb := putBit u.deb k (u.raw.getLsbD k)
      flags := ⟨putBit u.flags.panel k true, putBit u.flags.town k true⟩ }

/-- R42, R44: a change of a pump's selector contacts. -/
def State.selectorChange (s : State) (p : Pump) : State :=
  if !s.present p then s
  else
    let s :=
      if s.input (pumpInput p 1) && !s.input (pumpInput p 0) then s
      else { s with su := { s.su with entry := s.su.entry.set p none } }
    s.rederive p

/-- R9: a change of one of a pump's five inputs, by its offset. An absent pump's owners take no action. -/
def State.pumpInputChange (s : State) (p : Pump) (off : Nat) : State :=
  let active := s.input (pumpInput p off)
  match off with
  | 0 => s.selectorChange p
  | 1 => s.selectorChange p
  | 2 => if s.present p && !(s.ch.get p).gated then s.feedbackChange p active else s
  | 3 => if s.present p && active then s.thermalTrip p else s
  | _ => s.postLeak p

/-- R10, R71, R83: a change of the LOW float at the channels and the arbiter. The channels act in ascending pump number,
and so HAND pumps that the cutout stops with their feedback already inactive rejoin the hand waiters: DESIGN CHOICE,
notes/assumptions/52.md. -/
def State.lowFloatChange (s : State) : State :=
  if s.lowMade then (Pump.all.foldl State.testJoin s).askOffer else Pump.all.foldl State.cutout s

/-- Table 1-1, R10: an input change handed to its owners. -/
def State.inputToOwners (s : State) (k : Nat) : State :=
  match pumpOfInput k with
  | some (p, off) => s.pumpInputChange p off
  | none =>
    match k with
    | 30 => s.rakeSelector
    | 31 => if s.rakeTop then s.rakeTopActive else s
    | 32 => if s.rakeBottom then s.rakeBottomActive else s
    | 33 => if s.rakeOverload then s.rakeOverloadActive else s
    | 34 => s.changePower
    | 35 => s.changePower
    | 36 => (s.lowFloatChange.latchFloat 36).evalDisagree
    | 37 =>
      let s := s.latchFloat 37
      (if s.highMade then s.simEnd .highFloat else s).evalDisagree
    | 38 => (s.latchFloat 38).postHighHigh.evalDisagree
    | 39 => s.omEvaluate.evalDisagree
    | _ => s

/-- R9 to R12: an input change with everything it reaches. -/
def State.inputChange (s : State) (k : Nat) : State := (s.takeInput k).inputToOwners k

/-- R12: the disagreement timer has run 10 s. -/
def State.disagreeDue (s : State) : Bool := s.reached s.liu.disTimer

/-- R12, R39, R41: the disagreement timer ends: the condition changes and is posted to the AT and the SU. -/
def State.disagreeEnd (s : State) : State :=
  let v := !s.liu.levelDisagree
  let s := (s.mapLiu fun u => { u with disTimer := none, levelDisagree := v }).post 36 v
  if v then s.fallbackCondition .fallbackEnterDisagree else s.tryLeaveFallback

end Sys2Proof.Machine
end

