-- ==== Sys2Proof/Machine/Ports.lean ====
section
/-! DEFINITION. The port controllers (chapter 9) and the reply frame (11.2): rights, link supervision, the
answer to a request, the reply buffer and the bytes of a reply. -/

namespace Sys2Proof.Machine

/-- An owner's answer to a request: acceptance with its payload and, on a panel log read, the GAP flag; or
refusal with its reason and detail (R149, R151). -/
inductive Answer where
  | accept (payload : List Byte) (gap : Bool)
  | refuse (reason : Reason) (detail : Option Nat)
  deriving DecidableEq, Repr

/-- An acceptance without the GAP flag. -/
def Answer.ok (payload : List Byte) : Answer := .accept payload false

/-! ### Bytes of a reply -/

/-- A truth value as a byte. -/
def flagByte (b : Bool) : Byte := if b then 1#8 else 0#8

/-- R173: an optional field: a presence byte and the value in `n` bytes, zero where it is absent. -/
def optBytes (n : Nat) : Option Nat → List Byte
  | some v => 1#8 :: beBytes n v
  | none => 0#8 :: beBytes n 0

/-- The code of a port (R173). -/
def portCode : Port → Nat
  | .panel => 1
  | .town => 2

/-- The code of a port or of none (R173). -/
def holderCode : Option Port → Nat
  | some p => portCode p
  | none => 0

/-- The code of a refusal reason (Table 11-4). -/
def Reason.code : Reason → Nat
  | .unknownRequest => 1
  | .malformed => 2
  | .notOnThisPort => 3
  | .outOfRange => 4
  | .noSuchPump => 5
  | .selectorNotAuto => 6
  | .pumpLocked => 7
  | .tripPresent => 8
  | .screenNotLocked => 9
  | .simActive => 10
  | .simConditions => 11
  | .notInSim => 12
  | .noSuchItem => 13
  | .stagingHeld => 14
  | .notHolder => 15
  | .nothingStaged => 16
  | .inconsistent => 17
  | .storeBusy => 18

/-- The flags byte of a reply (Table 11-2), with REREAD as given. -/
def Reply.flagsByte (r : Reply) (reread : Bool) : Byte :=
  BitVec.ofNat 8
    (r.overwritten.toNat + 2 * reread.toNat + 4 * r.firstSinceReset.toNat + 8 * r.afterSilence.toNat +
      16 * r.gap.toNat + 32 * r.tagAbsent.toNat)

/-- A reply frame before its length and check value are formed, with its outcome code (Table 11-2). -/
def Reply.body (r : Reply) (outcome : Nat) (reread : Bool) : List Byte :=
  let reason := match r.refusal with
    | some (x, _) => x.code
    | none => 0
  let detail := match r.refusal with
    | some (_, some d) => d
    | _ => 0
  [r.tag, r.code, BitVec.ofNat 8 outcome, BitVec.ofNat 8 reason] ++ beBytes 2 detail ++ beBytes 6 r.uptime ++
    [r.flagsByte reread] ++ r.payload

/-- R174: a reply frame with its length and its check value. -/
def frameOf (body : List Byte) : List Byte := withCheck (beBytes 2 (body.length + 4) ++ body)

/-- R147, R174: the bytes of a reply as sent; a re-read sets REREAD. -/
def Reply.bytes (r : Reply) (reread : Bool) : List Byte := frameOf (r.body (if r.refusal.isSome then 1 else 0) reread)

/-- R174: the reply to a read of an EMPTY buffer, whose uptime field is the present uptime
(notes/assumptions/13.md). -/
def noReply (now : Nat) : List Byte :=
  frameOf
    (({ tag := 0#8
        code := 0#8
        refusal := none
        uptime := now
        overwritten := false
        firstSinceReset := false
        afterSilence := false
        gap := false
        tagAbsent := true
        payload := [] } : Reply).body 2 false)

/-- R147: a read transaction that clocks `n` bytes after the direction byte. -/
def State.readTransaction (s : State) (p : Port) (n : Nat) : State :=
  s.mapPort p fun c =>
    match c.buffer with
    | .empty => { c with clockedOut := (noReply s.uptime).take n }
    | .ready r => { c with clockedOut := (r.bytes false).take n, buffer := if n = 0 then .ready r else .taken r }
    | .taken r => { c with clockedOut := (r.bytes true).take n }

/-! ### The answer to an arrival -/

/-- R148: the buffer holds a reply that has not been read. -/
def Buffer.unread : Buffer → Bool
  | .ready _ => true
  | .empty => false
  | .taken _ => false

/-- R147, R148, R151, R156, R158: the reply formed at an arrival, in READY, with a refusal recorded. -/
def State.reply (s : State) (p : Port) (tag code : Byte) (tagAbsent : Bool) (a : Answer) : State :=
  s.mapPort p fun c =>
    let base : Reply :=
      { tag := tag
        code := code
        refusal := none
        uptime := s.uptime
        overwritten := c.buffer.unread
        firstSinceReset := c.firstReply
        afterSilence := c.afterSilence
        gap := false
        tagAbsent := tagAbsent
        payload := [] }
    match a with
    | .accept payload gap =>
      { c with
        buffer := .ready { base with payload := payload, gap := gap }
        firstReply := false
        afterSilence := false }
    | .refuse reason detail =>
      { c with
        buffer := .ready { base with refusal := some (reason, detail) }
        firstReply := false
        afterSilence := false
        lastRefusal := some ⟨code, tag, reason, detail, s.uptime⟩
        refusals := min 255 (c.refusals + 1) }

/-- R146: the refusal of a malformed or unknown frame, which reaches no owner and leaves the link alone. A malformed
frame too short to hold a code and a tag is recorded as the last refusal (R151) with 0 for both: DESIGN CHOICE,
notes/assumptions/45.md. -/
def State.turnAway (s : State) (p : Port) (tagCode : Option (Byte × Byte)) (r : Reason) : State :=
  match tagCode with
  | some (tag, code) =>
    (s.reply p tag code false (.refuse r none)).mapPort p fun c =>
      { c with afterSilence := (s.ports.get p).afterSilence }
  | none =>
    (s.reply p 0#8 0#8 true (.refuse r none)).mapPort p fun c =>
      { c with afterSilence := (s.ports.get p).afterSilence }

/-! ### Link supervision (R156 to R158) -/

/-- The link timeout of a port, in seconds (items 52 and 53). -/
def State.linkTimeout (s : State) : Port → Nat
  | .panel => s.item 52
  | .town => s.item 53

/-- The alarm point of a port's link (Table 7-1). -/
def linkPoint : Port → Nat
  | .panel => 41
  | .town => 42

/-- R156, R158: a well-formed request is heard: the timer moves on and the link is LIVE, back from SILENT
with its alarm condition false and the after-silence mark set. -/
def State.hear (s : State) (p : Port) : State :=
  let silent := (s.ports.get p).link == .silent
  let s := s.mapPort p fun c =>
    { c with
      link := .live
      linkTimer := some (s.uptime + s.linkTimeout p * 1000)
      lastReq := some s.uptime
      afterSilence := c.afterSilence || silent }
  if silent then s.post (linkPoint p) false else s

/-- R162: the staging copy emptied and freed. -/
def State.freeStaging (s : State) : State := { s with ss := { s.ss with holder := none, entries := [] } }

/-- R164: the holder's claim lost by silence, with its dropped-claim mark. -/
def State.dropClaim (s : State) (p : Port) : State :=
  if s.ss.holder = some p then
    let s := s.freeStaging
    { s with ss := { s.ss with dropped := s.ss.dropped.set p true } }
  else s

/-- R44: the manual entry of a pump removed where the port made it. -/
def State.removeEntryOf (p : Port) (s : State) (n : Pump) : State :=
  match s.su.entry.get n with
  | some e => if e.port = p then s.removeEntry n else s
  | none => s

/-- R157: a link enters SILENT, with what that undoes at each block. Its entries go in ascending pump number: DESIGN
CHOICE, notes/assumptions/52.md. -/
def State.silence (s : State) (p : Port) : State :=
  let s := s.mapPort p fun c => { c with link := .silent, linkTimer := none }
  let s := (Pump.all.foldl (State.removeEntryOf p) s).dropClaim p
  let s := match p with
    | .panel => s.simEnd .linkSilent
    | .town => s
  s.post (linkPoint p) true

/-- R156: the link timer of an AWAIT or LIVE link has ended. -/
def State.linkDue (s : State) (p : Port) : Bool :=
  (s.ports.get p).link != .silent && s.reached (s.ports.get p).linkTimer

/-! ### Rights (R150) -/

/-- Table 9-1: the request code may be used on the port. -/
def allowedOn (p : Port) (code : Nat) : Bool :=
  match p with
  | .panel => code != 0x52 && code != 0x53
  | .town => code != 0x11 && code != 0x12 && code != 0x13 && code != 0x31 && code != 0x51

/-- R149, R150, R156: a well-formed request: the link hears it, the rights are checked, the owner acts and
answers, and the answer becomes the reply. -/
def State.request (s : State) (p : Port) (tag : Byte) (code : Nat) (act : State → State × Answer) : State :=
  let s := s.hear p
  if allowedOn p code then
    let r := act s
    r.1.reply p tag (BitVec.ofNat 8 code) false r.2
  else s.reply p tag (BitVec.ofNat 8 code) false (.refuse .notOnThisPort none)

end Sys2Proof.Machine
end

