-- ==== Sys2Proof/Machine/Status.lean ====
section
/-! DEFINITION. The codes of Table 11-1 and the bytes a reply carries: the status snapshot sections (Table
11-5), the identity, the alarm entries (Table 11-6) and the log records (Tables 11-7 and 11-8). -/

namespace Sys2Proof.Machine

/-! ### Codes (Table 11-1) -/

/-- A one-byte field. -/
def byteOf (n : Nat) : Byte := BitVec.ofNat 8 n

/-- Level channel states. -/
def LevelState.code : LevelState → Nat
  | .init => 0
  | .good => 1
  | .suspect => 2
  | .failed => 3

/-- Command sources. -/
def Source.code : Source → Nat
  | .off => 0
  | .hand => 1
  | .manual => 2
  | .auto => 3

/-- Posted and standing requests. -/
def Req.code : Req → Nat
  | .none => 0
  | .start => 1
  | .stop => 2
  | .stopNow => 3

/-- Starter channel states. -/
def ChState.code : ChState → Nat
  | .unavailable => 0
  | .idle => 1
  | .queued => 2
  | .direct => 3
  | .star => 4
  | .changeover => 5
  | .running => 6
  | .stopping => 7
  | .lockedOut => 8

/-- Lockout causes. -/
def Cause.code : Cause → Nat
  | .none => 0
  | .trip => 1
  | .noStart => 2
  | .noStop => 3
  | .runLost => 4

/-- Power sources. -/
def Power.code : Power → Nat
  | .mains => 0
  | .generator => 1
  | .dead => 2

/-- The permit holder. -/
def Holder.code : Holder → Nat
  | .none => 0
  | .pump p => p.num
  | .rake => 7

/-- Rake states. -/
def RakeState.code : RakeState → Nat
  | .off => 0
  | .parked => 1
  | .waitPermit => 2
  | .lowering => 3
  | .raising => 4
  | .jamBackoff => 5
  | .discharge => 6
  | .homing => 7
  | .locked => 8

/-- Rake purposes. -/
def Purpose.code : Purpose → Nat
  | .cycle => 0
  | .home => 1

/-- Rake lock causes. -/
def LockCause.code : LockCause → Nat
  | .none => 0
  | .jam => 1
  | .travel => 2

/-- Monitor states. -/
def OmState.code : OmState → Nat
  | .quiet => 0
  | .opening => 1
  | .opened => 2
  | .closing => 3

/-- End reasons. -/
def EndReason.code : EndReason → Nat
  | .normal => 0
  | .interrupted => 1

/-- Alarm states. -/
def AlState.code : AlState → Nat
  | .normal => 0
  | .activeUnack => 1
  | .activeAck => 2
  | .clearedUnack => 3

/-- Link states. -/
def Link.code : Link → Nat
  | .await => 0
  | .live => 1
  | .silent => 2

/-- Store states. -/
def Store.code : Store → Nat
  | .idle => 0
  | .commit _ _ => 1
  | .snapshot => 2

/-- Reset kinds. -/
def ResetKind.code : ResetKind → Nat
  | .warm => 0
  | .cold => 1

/-- Reset causes. -/
def resetCauseCode : ResetCause → Nat
  | .power => 0
  | .pin => 1

/-- Store results. -/
def storeResultCode : StoreResult → Nat
  | .written => 0
  | .failed => 1

/-- Actions. -/
def actionCode : Action → Nat
  | .run => 0
  | .stop => 1

/-- Simulation exit reasons. -/
def ExitReason.code : ExitReason → Nat
  | .panelExit => 0
  | .linkSilent => 1
  | .highFloat => 2
  | .realLevel => 3
  | .timeLimit => 4

/-- A MODE record's change with its two detail bytes (11.4). -/
def ModeChange.bytes : ModeChange → List Byte
  | .fallbackEnterWell => [0#8, 0#8, 0#8]
  | .fallbackEnterDisagree => [1#8, 0#8, 0#8]
  | .fallbackExit => [2#8, 0#8, 0#8]
  | .simEnter => [3#8, 0#8, 0#8]
  | .simExit r => [4#8, byteOf r.code, 0#8]
  | .power a b => [5#8, byteOf a.code, byteOf b.code]

/-- A bitset of pumps (R173). -/
def pumpBits (l : List Pump) : Byte := byteOf ((Pump.all.filter l.contains).map fun p => 2 ^ (p.num - 1)).sum

/-- Pump numbers in order, 0 in the unused places of `n` (Table 11-5). -/
def pumpList (n : Nat) (l : List Pump) : List Byte := (List.range n).map fun i => byteOf ((l[i]?.map Pump.num).getD 0)

/-- Uptimes in seconds, four bytes each, 0 in the unused places of `n` (Table 11-5). -/
def uptimeList (n : Nat) (l : List Nat) : List Byte := (List.range n).flatMap fun i => beBytes 4 (l.getD i 0 / 1000)

/-- R173: a 40-bit bitset, five bytes, inputs 0 to 7 in the first byte sent. -/
def inputBits (x : BitVec 40) : List Byte := (List.range 5).map fun j => byteOf (x.toNat >>> (8 * j))

/-! ### Log records and alarm entries -/

/-- A record's kind code (Table 11-1). -/
def Body.kind : Body → Nat
  | .restart _ _ => 0
  | .clockSet _ _ => 1
  | .overflowOpen _ _ => 2
  | .overflowClose _ _ _ _ _ _ _ => 3
  | .alarmChange _ _ _ => 4
  | .alarmAck _ _ => 5
  | .summary _ _ _ _ _ _ _ _ => 6
  | .mode _ => 7
  | .settingsApplied _ _ _ => 8

/-- A record's payload (Table 11-8). -/
def Body.bytes : Body → List Byte
  | .restart k c => [byteOf k.code, byteOf (resetCauseCode c)]
  | .clockSet old new => optBytes 4 old ++ beBytes 4 new
  | .overflowOpen n l => beBytes 2 n ++ optBytes 2 l
  | .overflowClose n e d q pk u r =>
    beBytes 2 n ++ optBytes 4 e ++ beBytes 4 d ++ beBytes 4 q ++ optBytes 2 pk ++ beBytes 4 u ++ [byteOf r.code]
  | .alarmChange n st c => [byteOf n, byteOf st.code, byteOf c]
  | .alarmAck n p => [byteOf n, byteOf (portCode p)]
  | .summary st d al pu sp hi me va =>
    optBytes 4 st ++ beBytes 4 d ++ [flagByte al] ++ beBytes 4 pu ++ beBytes 4 sp ++ optBytes 2 hi ++ optBytes 2 me ++
      beBytes 2 va
  | .mode m => m.bytes
  | .settingsApplied p n r => [byteOf (portCode p), byteOf n, byteOf (storeResultCode r)]

/-- A log record: its header (Table 11-7) and its payload. -/
def LogRec.bytes (r : LogRec) : List Byte :=
  beBytes 4 r.seq ++ [byteOf r.body.kind, if r.classA then 0#8 else 1#8] ++ optBytes 4 r.time ++ beBytes 4 r.up ++
    [byteOf r.body.bytes.length] ++ r.body.bytes

/-- An alarm entry of 15 bytes (Table 11-6). -/
def State.alarmEntry (s : State) (n : Nat) : List Byte :=
  let a := s.point n
  [byteOf n, byteOf (s.priority n), byteOf a.state.code, flagByte a.cond] ++ optBytes 4 a.firstTime ++
    optBytes 4 a.lastTime ++ [byteOf a.count]

/-! ### The status snapshot (R154, Table 11-5) -/

/-- Seconds left to an uptime that may be absent, 0 where it is. -/
def State.left (s : State) : Option Nat → Nat
  | some t => s.secondsTo t
  | none => 0

/-- The marks of a level channel: bit 0 held (SUSPECT or FAILED), bit 1 stale (FAILED) (R6). -/
def LevelChan.marks (c : LevelChan) : Byte :=
  match c.state with
  | .init => 0#8
  | .good => 0#8
  | .suspect => 1#8
  | .failed => 3#8

/-- One level channel of section 1. -/
def LevelChan.bytes (c : LevelChan) : List Byte :=
  [byteOf c.state.code] ++ optBytes 2 c.level ++ [c.marks] ++ beBytes 2 c.raw.toNat

/-- Section 1, LEVELS. -/
def State.section1 (s : State) : List Byte :=
  s.liu.chan.well.bytes ++ s.liu.chan.inlet.bytes ++ optBytes 2 s.liu.diff ++
    [flagByte s.liu.levelDisagree, flagByte s.simOn] ++ optBytes 2 (s.liu.sim.map Session.well) ++
    optBytes 2 (s.liu.sim.map Session.inlet) ++
    beBytes 2 (s.left (s.liu.sim.map fun m => m.start + Config.sessionLimit))

/-- R26, R32: the estimate that a snapshot shows: the one the BE holds, and always its absence during a
session. -/
def State.shownEstimate (s : State) : Option Nat := if s.simOn then none else s.be.estimate

/-- Section 2, BALANCE. -/
def State.section2 (s : State) : List Byte :=
  let b := s.be
  optBytes 2 s.shownEstimate ++ beBytes 4 b.lastP ++ beBytes 4 b.lastW ++ [flagByte b.lastValid, byteOf b.ticks] ++
    beBytes 4 b.preSpill ++ optBytes 4 b.sum.startTime ++ beBytes 4 ((s.uptime - b.sum.startUp) / 1000) ++
    beBytes 4 b.sum.pumped ++ beBytes 4 b.sum.spilled ++ optBytes 2 b.sum.highest ++ beBytes 4 b.sum.sumIT ++
    beBytes 2 b.sum.sumT

/-- One manual entry of section 3. -/
def State.entryBytes (s : State) (p : Pump) : List Byte :=
  match s.su.entry.get p with
  | some e => [1#8, byteOf (portCode e.port), byteOf (actionCode e.act)] ++ beBytes 2 (s.secondsTo e.expiry)
  | none => [0#8, 0#8, 0#8, 0#8, 0#8]

/-- The handover record of section 3. -/
def handoverBytes : Option Handover → List Byte
  | some h => [1#8, pumpBits h.outgoing, pumpBits h.incoming] ++ beBytes 4 (h.start / 1000)
  | none => [0#8, 0#8, 0#8, 0#8, 0#8, 0#8, 0#8]

/-- Section 3, STAGING. -/
def State.section3 (s : State) : List Byte :=
  let u := s.su
  [byteOf ((List.range 6).map fun i => if u.flags.getD i false then 2 ^ i else 0).sum,
   byteOf u.dLevel, flagByte u.rise, byteOf u.d, flagByte u.fallback, byteOf u.lf] ++
    optBytes 2 u.level ++ [flagByte u.fresh, byteOf s.sa.limit, pumpBits u.target] ++ pumpList 6 u.roster ++
    (Pump.all.map fun p => byteOf (u.posted.get p).code) ++ Pump.all.flatMap s.entryBytes ++
    optBytes 4 (u.dutyStart.map fun t => t / 1000) ++ [flagByte u.deferredRot] ++ handoverBytes u.handover

/-- One channel of section 4. -/
def State.channelBytes (s : State) (p : Pump) : List Byte :=
  let c := s.ch.get p
  [byteOf c.state.code, byteOf c.source.code, byteOf (if c.standing then Req.start.code else Req.none.code),
   flagByte c.deferred] ++ beBytes 2 (s.left c.rest) ++
    [byteOf c.cause.code, flagByte c.gated, flagByte c.pendingSet.isSome] ++
    beBytes 4 c.wear.runSeconds ++ beBytes 4 c.wear.starts

/-- Section 4, CHANNELS. -/
def State.section4 (s : State) : List Byte := Pump.all.flatMap s.channelBytes

/-- The stagger left, in milliseconds (Table 11-5). -/
def State.staggerLeft (s : State) : Nat :=
  match s.sa.staggerOn, s.sa.lastRelease with
  | true, some t => t + s.item 31 * 1000 - s.uptime
  | _, _ => 0

/-- A station history: its count and eight places (Table 11-5). -/
def stationHistBytes (h : List (Nat × Pump)) : List Byte :=
  byteOf h.length :: (List.range 8).flatMap fun i =>
    match h[i]? with
    | some (t, p) => beBytes 4 (t / 1000) ++ [byteOf p.num]
    | none => beBytes 4 0 ++ [0#8]

/-- Section 5, ARBITER. -/
def State.section5 (s : State) : List Byte :=
  let a := s.sa
  [byteOf a.holder.code] ++ beBytes 2 s.staggerLeft ++ [byteOf a.queue.length] ++ pumpList 6 a.queue ++
    [byteOf a.waiters.length] ++ pumpList 6 a.waiters ++ stationHistBytes a.hist ++
    (Pump.all.flatMap fun p => byteOf (a.pumpHist.get p).length :: uptimeList 12 (a.pumpHist.get p)) ++
    [byteOf a.power.code, byteOf a.limit] ++ beBytes 2 (s.left a.hold)

/-- Section 6, RAKE. -/
def State.section6 (s : State) : List Byte :=
  let r := s.rc
  [byteOf r.state.code, if r.state = .waitPermit then byteOf r.purpose.code else 0#8, byteOf r.owed,
   flagByte r.forced, byteOf r.retry, byteOf r.cause.code,
   byteOf (s.rakeUp.toNat + 2 * s.rakeDown.toNat + 4 * s.conveyor.toNat)] ++
    optBytes 2 (r.interval.map s.secondsTo) ++ [flagByte r.blindTimer.isSome, flagByte r.blinded]

/-- The open event record of section 7. -/
def Event.bytes (e : Event) : List Byte :=
  beBytes 2 e.num ++ beBytes 4 (e.startUp / 1000) ++ optBytes 4 e.startTime ++ optBytes 2 e.openLevel ++
    optBytes 2 e.peak ++ beBytes 4 e.spill ++ beBytes 4 e.unmeasured ++ beBytes 4 e.elapsed ++ optBytes 4 e.lastTime

/-- Section 7, OVERFLOW. -/
def State.section7 (s : State) : List Byte :=
  let o := s.om
  let timer := match o.openTimer with
    | some t => some t
    | none => o.closeTimer
  [byteOf o.state.code] ++ optBytes 2 (timer.map s.secondsTo) ++ beBytes 2 o.nextNum ++
    (match o.event with
     | some e => 1#8 :: e.bytes
     | none => List.replicate 35 0#8)

/-- One point of section 8: bits 0 and 1 the state, bit 2 the condition. -/
def Alarm.statusByte (a : Alarm) : Byte := byteOf (a.state.code + 4 * a.cond.toNat)

/-- Section 8, ALARMS. -/
def State.section8 (s : State) : List Byte := (List.range 46).map fun i => (s.point (i + 1)).statusByte

/-- The seq of the oldest record held (R137, R140). -/
def State.oldestSeq (s : State) : Option Nat := s.rl.log.head?.map LogRec.seq

/-- The seq of the newest record held. -/
def State.newestSeq (s : State) : Option Nat := s.rl.log.getLast?.map LogRec.seq

/-- Section 9, LOG AND CLOCK. The clock field is the value held, valid or not (notes/assumptions/14.md). -/
def State.section9 (s : State) : List Byte :=
  beBytes 2 s.rl.log.length ++ optBytes 4 s.oldestSeq ++ optBytes 4 s.newestSeq ++ beBytes 4 s.rl.nextSeq ++
    beBytes 4 s.rl.cursor ++ [flagByte s.rl.full] ++ beBytes 4 s.rl.clock ++ [flagByte s.rl.clockValid]

/-- One port of section 10. -/
def State.portBytes (s : State) (p : Port) : List Byte :=
  let c := s.ports.get p
  [byteOf c.link.code] ++ optBytes 4 (c.lastReq.map fun t => (s.uptime - t) / 1000) ++
    [byteOf c.threshold, byteOf c.refusals, flagByte (s.alarms.line.get p)]

/-- Section 10, PORTS. -/
def State.section10 (s : State) : List Byte :=
  s.portBytes .panel ++ s.portBytes .town ++
    [byteOf (holderCode s.ss.holder), byteOf s.ss.entries.length, byteOf s.ss.store.code]

/-- The body of a section, for the numbers that name one (Table 9-3). -/
def State.sectionBytes (s : State) : Nat → Option (List Byte)
  | 1 => some s.section1
  | 2 => some s.section2
  | 3 => some s.section3
  | 4 => some s.section4
  | 5 => some s.section5
  | 6 => some s.section6
  | 7 => some s.section7
  | 8 => some s.section8
  | 9 => some s.section9
  | 10 => some s.section10
  | _ => none

/-- The identity (R155, Table 11-3). -/
def State.identityBytes (s : State) (p : Port) : List Byte :=
  beBytes 2 0x4956 ++ [0x57#8] ++ beBytes 2 406 ++
    [Config.siliconRevision, 1#8, byteOf (portCode p), byteOf s.resetKind.code, byteOf (resetCauseCode s.resetCause)] ++
    beBytes 4 (s.uptime / 1000) ++ [flagByte s.ss.defaults]

end Sys2Proof.Machine
end

