-- ==== Sys2Proof/Machine/Settings.lean ====
section
/-! DEFINITION. The Settings Store (chapter 10): the staging copy, the gate every staging request passes, the
commit with its application at every block, and the store writes. -/

namespace Sys2Proof.Machine

/-- Apply a change to the Settings Store. -/
def State.mapSs (s : State) (f : Ss → Ss) : State := { s with ss := f s.ss }

/-! ### The staging copy (R162 to R164) -/

/-- R162: the staged value of an item, if the copy holds one. -/
def stagedValue (l : List (Nat × Nat)) (k : Nat) : Option Nat := (l.find? fun e => e.1 == k).map Prod.snd

/-- R162: an entry added or replaced, the entries rising by item number. -/
def stage (k v : Nat) : List (Nat × Nat) → List (Nat × Nat)
  | [] => [(k, v)]
  | e :: es => if k < e.1 then (k, v) :: e :: es else if k = e.1 then (k, v) :: es else e :: stage k v es

/-- R164, R165: the refusal that COMMIT_SETTINGS and DISCARD_SETTINGS meet before their own effect. -/
def State.stagingGate (s : State) (p : Port) : Option Reason :=
  if s.ss.store ≠ .idle then some .storeBusy
  else
    match s.ss.holder with
    | some q => if q = p then none else some .stagingHeld
    | none => if s.ss.dropped.get p then some .notHolder else some .nothingStaged

/-- R164: the dropped-claim mark of a port is cleared. -/
def State.clearDropped (s : State) (p : Port) : State := s.mapSs fun t => { t with dropped := t.dropped.set p false }

/-- R163: the refusal of an edit, in the order of the checks. -/
def State.editRefusal (s : State) (p : Port) (k v : Nat) : Option (Reason × Option Nat) :=
  if !isItem k then some (.noSuchItem, some k)
  else if s.ss.store ≠ .idle then some (.storeBusy, none)
  else if s.ss.holder.isSome && s.ss.holder != some p then some (.stagingHeld, none)
  else if !inItemRange k v then some (.outOfRange, some k)
  else if s.simOn && isProtected k then some (.simActive, some k)
  else none

/-- R163: an accepted edit. -/
def State.acceptEdit (s : State) (p : Port) (k v : Nat) : State :=
  (s.mapSs fun t => { t with holder := some p, entries := stage k v t.entries }).clearDropped p

/-! ### Store writes (R167, R168) -/

/-- R167: the wear snapshot: run seconds and starts of the six pumps. -/
def State.wearSnapshot (s : State) : PerPump Wear :=
  ⟨s.ch.p1.wear, s.ch.p2.wear, s.ch.p3.wear, s.ch.p4.wear, s.ch.p5.wear, s.ch.p6.wear⟩

/-- R169: the check value that matches an image's contents, computed over the rest of the image: run seconds and
starts of pump 1 to pump 6 stand in it for the wear snapshot. -/
def Image.checkNow (m : Image) : Nat :=
  Config.imageCheck m.version m.items
    (Pump.all.flatMap fun p => [(m.wear.get p).runSeconds, (m.wear.get p).starts])

/-- R167: a store write begins: what it writes is taken now, and the image is invalid until it completes. -/
def State.beginWrite (s : State) (purpose : Store) : State :=
  s.mapSs fun t =>
    { t with
      store := purpose
      image := { items := t.active, wear := s.wearSnapshot, version := Config.imageVersion, check := none } }

/-- R167, R169: the image after a read-back: one that agrees leaves the check value that matches the contents, one
that does not leaves the image without it. -/
def Image.completed (m : Image) (r : StoreResult) : Image :=
  { m with check := match r with
    | .written => some m.checkNow
    | .failed => none }

/-- R167: the result of the read-back: the image's validity, the record of a commit, and STORE_FAULT. -/
def State.endWrite (s : State) (r : StoreResult) : State :=
  let purpose := s.ss.store
  let bad := r == .failed
  let s := s.mapSs fun t => { t with store := .idle, image := t.image.completed r, fault := bad }
  let s := match purpose with
    | .commit p n => s.append (.settingsApplied p n r)
    | .snapshot => s
    | .idle => s
  s.post 44 bad

/-- R167, R168: a write completes; a snapshot that fell due meanwhile begins. -/
def State.completeWrite (s : State) (r : StoreResult) : State :=
  let s := s.endWrite r
  if s.ss.snapshotDue then (s.mapSs fun t => { t with snapshotDue := false }).beginWrite .snapshot else s

/-- R168: a snapshot falls due. -/
def State.takeSnapshot (s : State) : State :=
  let s := s.mapSs fun t => { t with nextSnapshot := t.nextSnapshot + Config.snapshotPeriod }
  if s.ss.store = .idle then s.beginWrite .snapshot else s.mapSs fun t => { t with snapshotDue := true }

/-! ### The commit (R165, R166) -/

/-- R165: the proposed settings. -/
def proposed (active : List Nat) (entries : List (Nat × Nat)) : List Nat :=
  entries.foldl (fun l e => setItem l e.1 e.2) active

/-- R165: the protected items staged with a value other than the active one, charged while simulation is
active. -/
def State.simCharged (s : State) : List Nat :=
  if s.simOn then
    (s.ss.entries.filter fun e => isProtected e.1 && e.2 != s.item e.1).map Prod.fst
  else []

/-- R165: the lowest item number charged by a failing check, if any fails. -/
def State.inconsistentItem (s : State) : Option Nat :=
  lowest (chargedItems (proposed s.ss.active s.ss.entries) ++ s.simCharged)

/-- R166: the commit's item count. -/
def State.commitCount (s : State) : Nat := (s.ss.entries.filter fun e => e.2 != s.item e.1).length

/-- Item `k` differs from the settings in force before the commit. -/
def State.changed (s : State) (old : List Nat) (k : Nat) : Bool := itemOf old k != s.item k

/-- R8, R7, R12: the LIU at a commit. -/
def State.commitLevels (s : State) : State :=
  (s.mapLiu fun u =>
    { u with
      chan :=
        { well := { u.chan.well with cal := calOf s.ss.active .well }
          inlet := { u.chan.inlet with cal := calOf s.ss.active .inlet } } }).evalHigh.evalDisagree

/-- R18, R22: the BE's copies at a commit. -/
def State.commitTables (s : State) (old : List Nat) : State :=
  if s.changed old 46 || (List.range 36).any fun i => s.changed old (102 + i) then
    s.mapBe fun b =>
      { b with vol := volumeTable s.ss.active, weir := weirTable s.ss.active, crest := s.item 46, valid := false }
  else s

/-- R76: the per-pump items of one pump at a commit: in force at once in UNAVAILABLE, IDLE and LOCKED_OUT,
pending elsewhere. -/
def State.commitPumpItems (old : List Nat) (s : State) (p : Pump) : State :=
  if pumpItemsOf old p = pumpItemsOf s.ss.active p then s
  else
    s.mapCh p fun c =>
      match c.state with
      | .unavailable | .idle | .lockedOut => { c with force := pumpItemsOf s.ss.active p, pendingSet := none }
      | .queued | .direct | .star | .changeover | .running | .stopping =>
        { c with pendingSet := some (pumpItemsOf s.ss.active p) }

/-- R42, R44, R68, R69: a pump made absent. -/
def State.makeAbsent (s : State) (p : Pump) : State :=
  let s := { s with su := { s.su with entry := s.su.entry.set p none } }
  let s := if (s.ch.get p).gated then s.ungate p else s
  ((((s.discardStart p).mapCh p fun c => { c with deferred := false }).toAbsent p)).postLeak p

/-- R42, R66, R7: a pump made present. A thermal input that is active locks its channel out. -/
def State.makePresent (s : State) (p : Pump) : State :=
  let s := s.rederive p
  (if s.input (pumpInput p 3) then s.thermalTrip p else s).postLeak p

/-- A commit's change of one pump's presence. -/
def State.commitPresence (old : List Nat) (s : State) (p : Pump) : State :=
  if s.changed old (pumpItem p 0) then (if s.present p then s.makePresent p else s.makeAbsent p) else s

/-- A commit changes the presence of some pump. -/
def State.presenceChanged (s : State) (old : List Nat) : Bool := Pump.all.any fun p => s.changed old (pumpItem p 0)

/-- R49, R54: the roster sorted, and D_level recomputed, where the presence of a pump changed. -/
def State.commitRoster (s : State) (old : List Nat) : State :=
  if s.presenceChanged old then
    let s := s.rotate
    s.mapSu fun u => { u with dLevel := s.levelDemand }
  else s

/-- R80, R88, R93: block SA at a commit, with the one offer it makes. -/
def State.commitArbiter (s : State) (old : List Nat) : State :=
  let s := s.setLimit (s.limitFor s.sa.power)
  (if s.changed old 31 && s.staggerDue then s.endStagger else s).askOffer

/-- R77: a held request that has become due is granted, with what becoming active brings. -/
def State.takeGrant (s : State) (g : GuardPair) : State :=
  match s.grantDue g with
  | some m =>
    let s := s.setPair g ((s.pair g).activate m)
    match g with
    | .pump p => s.pumpMoves p m
    | .rake => s.rakeMoves m
  | none => s

/-- R77: held requests under a committed dead time. -/
def State.commitGuard (s : State) (old : List Nat) : State :=
  let s := if s.changed old 30 then Pump.all.foldl (fun s p => s.takeGrant (.pump p)) s else s
  if s.changed old 44 then s.takeGrant .rake else s

/-- R98: the interval timer ends: a request, and the timer set again. -/
def State.intervalExpiry (s : State) : State := s.rakeAdd.setInterval

/-- R98: a committed change of rake_interval_min. -/
def State.commitInterval (s : State) (old : List Nat) : State :=
  if s.changed old 37 then
    match s.item 37, s.rc.interval with
    | 0, _ => s.mapRc fun r => { r with interval := none }
    | _, none => s.setInterval
    | n, some e =>
      let s := s.mapRc fun r => { r with interval := some (e - itemOf old 37 * 60000 + n * 60000) }
      if s.reached s.rc.interval then s.intervalExpiry else s
  else s

/-- R112: the RC at a commit. A request that the new items raise moves a PARKED rake to WAIT_PERMIT as any request
does (R96, R100): DESIGN CHOICE, notes/assumptions/41.md. -/
def State.commitRake (s : State) (old : List Nat) : State :=
  let s := match s.changed old 35, s.liu.diff with
    | true, some v => s.evalStart v
    | _, _ => s
  let s := if s.changed old 36 then s.evalForced else s
  let s := s.commitInterval old
  match s.changed old 43, s.liu.diff with
  | true, some v => s.evalBlinding v
  | _, _ => s

/-- R119: a running debounce timer under a new length. -/
def shiftTimer (t : Option Nat) (old new : Nat) : Option Nat := t.map fun e => e - old * 1000 + new * 1000

/-- R119: the OM at a commit. The two conditions are evaluated under the new crest and hysteresis before a debounce
that the commit shortens past its end opens or closes the event (R115, R118): DESIGN CHOICE,
notes/assumptions/51.md. -/
def State.commitOverflow (s : State) (old : List Nat) : State :=
  let s := s.mapOm fun o =>
    { o with
      openTimer := shiftTimer o.openTimer (itemOf old 48) (s.item 48)
      closeTimer := shiftTimer o.closeTimer (itemOf old 49) (s.item 49) }
  let s := if s.changed old 46 || s.changed old 47 then s.omEvaluate else s
  let s := if s.changed old 48 && s.openDue then s.openEvent else s
  if s.changed old 49 && s.closeDue then s.closeEvent else s

/-- R30: a committed change of summary_min. -/
def State.commitSummary (s : State) (old : List Nat) : State :=
  if s.changed old 51 && s.summaryElapsed then s.closeSummary false else s

/-- R130: one point's enable at a commit. A point that another block's post has already driven in the same
commit stays where that post left it. -/
def State.commitPoint (old : List Nat) (s : State) (n : Nat) : State :=
  if !s.changed old (183 + n) then s
  else
    let a := s.point n
    if s.enabled n then
      if a.cond ∧ a.state = .normal then
        let s := (s.setPoint n (movedAlarm s.clockTime a .activeUnack)).refreshLines
        s.append (s.changeBody n)
      else s
    else if a.state = .normal then s
    else s.setPoint n { a with state := .normal, unseen := ⟨true, true⟩ }

/-- R130: the AT at a commit, with the lines and the beacon re-evaluated. The points are taken in ascending number,
which orders the records of several: DESIGN CHOICE, notes/assumptions/42.md. -/
def State.commitAlarms (s : State) (old : List Nat) : State :=
  (((List.range 46).map (· + 1)).foldl (State.commitPoint old) s).refreshLines

/-- R159: a committed link timeout at one port. -/
def State.commitLink (s : State) (old : List Nat) (p : Port) (item : Nat) : State :=
  if s.changed old item && (s.ports.get p).link != .silent then
    let s := s.mapPort p fun c => { c with linkTimer := some (c.lastReq.getD 0 + s.item item * 1000) }
    if s.linkDue p then s.silence p else s
  else s

/-- R51: a committed change of duty_hold_h. -/
def State.commitDuty (s : State) (old : List Nat) : State :=
  if s.changed old 26 then
    if s.item 26 = 0 then s.mapSu fun u => { u with dutyStart := none, deferredRot := false }
    else if s.dutyDue then s.dutyExpiry
    else s
  else s

/-- R54: the SU at a commit, before its pass. -/
def State.commitStaging (s : State) (old : List Nat) : State :=
  let s :=
    if (List.range 12).any (fun i => s.changed old (11 + i)) && !s.su.fallback then
      match s.su.level with
      | some l => s.setFlags (s.flagsAt l)
      | none => s
    else s
  s.commitDuty old

/-- R166, Table 10-4: the changed items at the blocks that use them (notes/assumptions/28.md). Within a block the pumps
are taken in ascending number, which orders those that one commit makes present or absent: DESIGN CHOICE,
notes/assumptions/53.md. -/
def State.applyCommit (s : State) (old : List Nat) : State :=
  let s := s.commitLevels.commitTables old
  let s := Pump.all.foldl (State.commitPumpItems old) s
  let s := (Pump.all.foldl (State.commitPresence old) s).commitRoster old
  let s := ((((s.commitArbiter old).commitGuard old).commitRake old).commitOverflow old).commitSummary old
  let s := ((s.commitAlarms old).commitLink old .panel 52).commitLink old .town 53
  s.commitStaging old

/-- R166: an accepted commit: the staged values active, every block told, the copy freed, the defaults mark
cleared and a store write begun. The wear snapshot of the write is taken before the offer of the same event (R93, R167):
DESIGN CHOICE, notes/assumptions/54.md. -/
def State.commit (s : State) (p : Port) : State :=
  let old := s.ss.active
  let n := s.commitCount
  let s := s.mapSs fun t => { t with active := proposed t.active t.entries }
  let s := (s.applyCommit old).freeStaging
  (s.mapSs fun t => { t with defaults := false }).beginWrite (.commit p n)

end Sys2Proof.Machine
end

