-- ==== Sys2Proof/Machine/Reset.lean ====
section
/-! DEFINITION. A reset of the part (R171 and the reset rule of every block: R17, R33, R55, R78, R94, R113,
R120, R131, R143, R144, R160, R170, R172). -/

namespace Sys2Proof.Machine

/-- R169: the nonvolatile image is valid: the check value matches its contents, the format version is the one
the part expects, and the item values are in range and consistent. -/
def Image.valid (m : Image) : Bool :=
  m.check == some m.checkNow && m.version == Config.imageVersion && settingsSound m.items

/-- R170: the settings a reset loads. -/
def State.loadedSettings (s : State) : List Nat := if s.ss.image.valid then s.ss.image.items else factoryDefaults

/-- R75, R170: the wear record a reset gives a pump: kept when warm; from the image, or zero, when cold. -/
def State.loadedWear (s : State) (p : Pump) : Wear :=
  if s.ss.marker then (s.ch.get p).wear
  else if s.ss.image.valid then s.ss.image.wear.get p
  else ⟨0, 0⟩

/-- R17, R42: a pump's command source by its contacts as sampled at reset; no entry is held. -/
def resetSource (active : List Nat) (raw : BitVec 40) (p : Pump) : Source :=
  if itemOf active (pumpItem p 0) ≠ 0 then .off
  else
    match raw.getLsbD (pumpInput p 0), raw.getLsbD (pumpInput p 1) with
    | false, false => .off
    | true, true => .off
    | true, false => .hand
    | false, true => .auto

/-- R78: a pump's channel after reset. -/
def State.resetChan (s : State) (p : Pump) : Chan :=
  let active := s.loadedSettings
  Chan.reset (resetSource active s.liu.raw p) (pumpItemsOf active p) (s.loadedWear p)

/-- R94: the power source by the contacts as sampled at reset. -/
def resetPower (raw : BitVec 40) : Power :=
  if raw.getLsbD 34 then .mains else if raw.getLsbD 35 then .generator else .dead

/-- R113: the rake after reset, with the interval timer set from its item. -/
def resetRake (active : List Nat) (raw : BitVec 40) : Rc :=
  { state := if !raw.getLsbD 30 then .off else if raw.getLsbD 31 then .parked else .waitPermit
    purpose := .home
    owed := 0
    armed := true
    forced := false
    retry := 0
    cause := .none
    travel := none
    backoff := none
    discharge := none
    interval := if itemOf active 37 = 0 then none else some (itemOf active 37 * 60000)
    blindTimer := none
    blinded := false
    firstPending := false }

/-- R141: how many advances of the clock fall before uptime `stop`, where the next falls at `e`. -/
def advancesBefore (e stop : Nat) : Nat := (stop - e + (Config.clockSecond - 1)) / Config.clockSecond

/-- R141: the clock kept through a reset that ends at uptime `stop` of the run before it. It goes on advancing while
the part is held in reset or unpowered, becomes invalid where an advance would take it beyond its greatest value, and
goes into the new run with the part of a second it has run (notes/assumptions/30.md). -/
def Rl.keptClock (r : Rl) (stop : Nat) : Rl :=
  match r.clockValid, r.nextAdvance with
  | true, some e =>
    let n := advancesBefore e stop
    if r.clock + n ≤ max32 then { r with clock := r.clock + n, nextAdvance := some (e + n * Config.clockSecond - stop) }
    else { r with clock := max32, clockValid := false, nextAdvance := none }
  | _, _ => { r with nextAdvance := none }

/-- R143, R144: the report log and the clock that a reset finds or empties, with the cursor set. The reset ends `away`
milliseconds after the last event. -/
def State.resetLog (s : State) (away : Nat) : Rl :=
  if s.ss.marker then
    { s.rl.keptClock (s.uptime + away) with
      full := false
      cursor := match s.rl.log with
        | [] => s.rl.nextSeq
        | r :: _ => r.seq }
  else { log := [], nextSeq := 1, cursor := 1, full := false, clock := 0, clockValid := false, nextAdvance := none }

/-- R17, R33, R55, R78, R94, R113, R120, R131, R160, R172: every block started afresh, before the appends and
the posts of the reset. The backup domain is kept when warm and emptied when cold. -/
def State.freshBlocks (s : State) (cause : ResetCause) (away : Nat) : State :=
  let active := s.loadedSettings
  let raw := s.liu.raw
  let rl := s.resetLog away
  { uptime := 0
    resetKind := if s.ss.marker then .warm else .cold
    resetCause := cause
    liu :=
      { chan := ⟨LevelChan.reset (calOf active .well), LevelChan.reset (calOf active .inlet)⟩
        raw := raw
        deb := raw
        rawSince := List.replicate 40 0
        flags := ⟨0#40, 0#40⟩
        disTimer := none
        levelDisagree := false
        highLevel := false
        diff := none
        sim := none
        nextSample := ⟨Config.samplePeriod, Config.samplePeriod⟩ }
    be :=
      { vol := volumeTable active
        weir := weirTable active
        crest := itemOf active 46
        t := itemOf active 50
        level := none
        vStart := none
        p := 0
        w := 0
        meteredP := 0
        meteredW := 0
        valid := false
        ticks := 0
        estimate := none
        lastP := 0
        lastW := 0
        lastValid := false
        preSpill := 0
        sum :=
          { startUp := 0
            startTime := if rl.clockValid then some rl.clock else none
            pumped := 0
            spilled := 0
            highest := none
            sumIT := 0
            sumT := 0 }
        boundaryDue := false
        nextFlow := 1000 }
    su :=
      { flags := List.replicate 6 false
        dLevel := 0
        rise := false
        d := 0
        fallback := true
        quietFallback := true
        lf := 0
        level := none
        fresh := false
        entry := PerPump.const none
        stamp := 0
        roster := []
        dutyStart := none
        deferredRot := false
        handover := none
        target := []
        posted := PerPump.const .none }
    ch :=
      ⟨s.resetChan .p1, s.resetChan .p2, s.resetChan .p3, s.resetChan .p4, s.resetChan .p5, s.resetChan .p6⟩
    cg := { pump := PerPump.const Pair.reset, rake := Pair.reset }
    sa :=
      { holder := .none
        lastRelease := none
        staggerOn := false
        rakeInrush := none
        queue := []
        waiters := []
        hist := []
        pumpHist := PerPump.const []
        simHist := none
        windowMark := 0
        power := resetPower raw
        limit := 0
        hold := none }
    rc := resetRake active raw
    om :=
      { state := .quiet
        openTimer := none
        closeTimer := none
        debounce := none
        event := none
        nextNum := if s.ss.marker then s.om.nextNum else 1
        nextUpdate := 1000 }
    alarms := { points := List.replicate 46 Alarm.reset, line := ⟨false, false⟩, beacon := false }
    rl := rl
    ports := ⟨PortCtl.reset 3 (itemOf active 52 * 1000), PortCtl.reset 1 (itemOf active 53 * 1000)⟩
    ss :=
      { active := active
        holder := none
        entries := []
        dropped := ⟨false, false⟩
        store := .idle
        snapshotDue := false
        defaults := !s.ss.image.valid
        fault := !s.ss.image.valid
        image := s.ss.image
        marker := true
        nextSnapshot := Config.snapshotPeriod }
    work := ⟨false, false⟩
    pending := s.pending }

/-- R120: the OVERFLOW_CLOSE of an event that a warm reset interrupts. -/
def Event.interrupted (e : Event) : Body :=
  .overflowClose e.num e.lastTime e.elapsed e.spill e.peak e.unmeasured .interrupted

/-- R120, R143, R144: the appends of a reset: the interrupted event where there was one, then RESTART. -/
def State.resetRecords (old s : State) : State :=
  let s := match old.ss.marker, old.om.event with
    | true, some e => s.appendRaw e.interrupted
    | _, _ => s
  s.appendRaw (.restart s.resetKind s.resetCause)

/-- R55: the floats as they stand at reset applied to the fallback latch as if each had just changed. -/
def State.resetLatch (s : State) : Nat :=
  let lf := if s.highMade then 1 else 0
  let lf := if s.hhMade then s.sa.limit else min lf 1
  if s.lowMade then lf else 0

/-- R50, R55, R88, R94: the running limit, the roster, the latch and demand after reset. -/
def State.resetStaging (s : State) : State :=
  let s := s.mapSa fun a => { a with limit := s.limitFor s.sa.power }
  let s := s.rotate
  let s := s.mapSu fun u => { u with lf := s.resetLatch }
  s.mapSu fun u => { u with d := s.demand }

/-- R91, R94: the restart hold of a reset that finds the supply alive. -/
def State.resetHold (s : State) : State := if s.sa.power = .dead then s else s.beginHold

/-- R143, R144: LOG_FULL evaluated afresh at a reset. -/
def State.resetFull (s : State) : State :=
  if !s.rl.full && Config.logFullAt ≤ s.rl.log.length then
    ({ s with rl := { s.rl with full := true } }).post 43 true
  else s

/-- R131: the owners' posts of a reset: the RL's two, then the others in point order
(notes/assumptions/12.md). -/
def State.resetPosts (s : State) : State :=
  let s := (s.post 45 (!s.rl.clockValid)).resetFull
  let s := (Pump.all.foldl State.postLeak s).postHighHigh
  (s.post 40 (s.sa.power != .mains)).post 44 s.ss.fault

/-- R171: a reset, with the offer of a restart hold of no length. -/
def State.restart (s : State) (cause : ResetCause) (away : Nat) : State :=
  let t := s.resetRecords (s.freshBlocks cause away)
  let t := (Pump.all.foldl State.testJoin t.resetStaging.resetHold).resetPosts.omEvaluate
  let t := if t.work.offer then t.offer else t
  { t with work := ⟨false, false⟩ }

end Sys2Proof.Machine
end

