-- ==== Sys2Proof/Machine/FieldEvents.lean ====
section
/-! DEFINITION. The meanings of the reset, of the events of the level channels, the inputs, the balance and
the station clock, and of the overflow timers. An event whose occasion is not there changes nothing
(notes/assumptions/2.md). -/

namespace Sys2Proof.Machine

/-- The outcome of a command: a next state always (INVENTORY.md, Faults). -/
abbrev Result := Host.Outcome State Fault Refusal

/-- A state after an event whose occasion holds, and the state as it was otherwise. -/
def State.onlyIf (s : State) (occasion : Bool) (after : State) : State := if occasion then after else s

/-- RESET (R171), with the time the part was held in reset or unpowered (R141). -/
def execReset (cause : ResetEvent) (s : State) : Result := .next (s.restart cause.cause cause.away)

/-- The sample event of a channel is due (R1). -/
def State.sampleDue (s : State) (c : Loop) : Bool := decide (s.liu.nextSample.get c ≤ s.uptime)

/-- R1: one sample event with everything it reaches, before the event ends. -/
def State.sample (s : State) (c : Loop) (raw : BitVec 12) : State :=
  match c with
  | .well => s.sampleWell raw
  | .inlet => s.sampleInlet raw

/-- SAMPLE_EVENT (R1 to R7, R13). -/
def execSampleEvent (c : Loop) (raw : BitVec 12) (s : State) : Result :=
  .next (s.onlyIf (s.sampleDue c) (s.finish (s.sample c raw)))

/-- RAW_INPUT_CHANGE (R9). -/
def execRawInputChange (k : Fin 40) (v : Bool) (s : State) : Result := .next (s.rawChange k v)

/-- INPUT_CHANGE (R9 to R12). -/
def execInputChange (k : Fin 40) (s : State) : Result :=
  .next (s.onlyIf (s.inputDue k) (s.finish (s.inputChange k)))

/-- DISAGREE_TIMER_END (R12). -/
def execDisagreeTimerEnd (s : State) : Result := .next (s.onlyIf s.disagreeDue (s.finish s.disagreeEnd))

/-- The flow tick is due (2.2). -/
def State.flowDue (s : State) : Bool := decide (s.be.nextFlow ≤ s.uptime)

/-- R25: the flow tick that comes next is the T-th of the interval, and a balance tick is taken within it. -/
def State.closingTick (s : State) : Bool := decide (s.be.t ≤ s.be.ticks + 1)

/-- R25: the T-th flow tick of an interval: its additions, and within the same event the balance tick. -/
def State.closeInterval (s : State) : State := s.finish s.flowTick.balanceTick

/-- FLOW_TICK (R20 to R24, R75). The T-th of an interval closes it (R25): that one event is taken by FLOW_TICK or
BALANCE_TICK, whichever is offered first (notes/assumptions/37.md). -/
def execFlowTick (s : State) : Result :=
  .next (s.onlyIf s.flowDue (if s.closingTick then s.closeInterval else s.flowTick))

/-- The T-th flow tick of the interval is due (R25). -/
def State.balanceDue (s : State) : Bool := s.flowDue && s.closingTick

/-- BALANCE_TICK (R25 to R29, R36): the T-th flow tick with the balance tick within it. -/
def execBalanceTick (s : State) : Result := .next (s.onlyIf s.balanceDue s.closeInterval)

/-- A summary boundary is due: the clock has just reached a multiple, or the clock is invalid and the
summary has run its length (R30). -/
def State.summaryDue (s : State) : Bool := s.be.boundaryDue || s.summaryElapsed

/-- SUMMARY_BOUNDARY (R30, R31). -/
def execSummaryBoundary (s : State) : Result :=
  .next (s.onlyIf s.summaryDue (s.closeSummary s.be.boundaryDue))

/-- R141: the clock is valid and its next advance has fallen due on its own time base. -/
def State.clockDue (s : State) : Bool := s.rl.clockValid && s.reached s.rl.nextAdvance

/-- R141, R30: one advance of a valid station clock, with the mark of a summary boundary it reaches. The next falls
one second after this one fell due. -/
def State.advanceClock (s : State) : State :=
  if s.rl.clock = max32 then ({ s with rl := { s.rl with clockValid := false, nextAdvance := none } }).post 45 true
  else
    let s := { s with rl :=
      { s.rl with
        clock := s.rl.clock + 1
        nextAdvance := s.rl.nextAdvance.map fun t => t + Config.clockSecond } }
    if s.rl.clock % (s.item 51 * 60) = 0 then s.mapBe fun b => { b with boundaryDue := true } else s

/-- CLOCK_ADVANCE (R141). -/
def execClockAdvance (s : State) : Result := .next (s.onlyIf s.clockDue s.advanceClock)

/-- OVERFLOW_OPEN_TIMER_END (R116). -/
def execOverflowOpenTimerEnd (s : State) : Result := .next (s.onlyIf s.openDue s.openEvent)

/-- OVERFLOW_CLOSE_TIMER_END (R118). -/
def execOverflowCloseTimerEnd (s : State) : Result := .next (s.onlyIf s.closeDue s.closeEvent)

/-- A whole second of uptime has come while an event is open (R117). -/
def State.updateDue (s : State) : Bool := s.om.event.isSome && decide (s.om.nextUpdate ≤ s.uptime)

/-- OVERFLOW_RECORD_UPDATE (R117). -/
def execOverflowRecordUpdate (s : State) : Result := .next (s.onlyIf s.updateDue s.updateEvent)

/-- R16: 1800 s have passed since the session start. -/
def State.simLimitDue (s : State) : Bool :=
  match s.liu.sim with
  | some m => decide (m.start + Config.sessionLimit ≤ s.uptime)
  | none => false

/-- SIM_TIME_LIMIT (R16). -/
def execSimTimeLimit (s : State) : Result := .next (s.onlyIf s.simLimitDue (s.finish (s.simEnd .timeLimit)))

/-- BACKUP_DOMAIN_SUPPLY_LOSS (R171): the marker becomes INVALID. What the domain held is found lost at the
next reset. -/
def execBackupDomainSupplyLoss (s : State) : Result := .next (s.mapSs fun t => { t with marker := false })

end Sys2Proof.Machine
end

