-- ==== Sys2Proof/Machine/StarterEvents.lean ====
section
/-! DEFINITION. The meanings of the timer events of staging, the starter channels, the Contactor Guard and
the arbiter. -/

namespace Sys2Proof.Machine

/-- R44: the entry's expiry uptime has been reached. -/
def State.entryDue (s : State) (p : Pump) : Bool := s.reached ((s.su.entry.get p).map Entry.expiry)

/-- MANUAL_ENTRY_EXPIRY (R44, R48). -/
def execManualEntryExpiry (p : Pump) (s : State) : Result :=
  .next (s.onlyIf (s.entryDue p) (s.finish (s.removeEntry p)))

/-- DUTY_HOLD_EXPIRY (R51). -/
def execDutyHoldExpiry (s : State) : Result := .next (s.onlyIf s.dutyDue (s.finish s.dutyExpiry))

/-- R52: 120 s of uptime have passed since the handover's start. -/
def State.handoverDue (s : State) : Bool :=
  match s.su.handover with
  | some h => decide (h.start + Config.handoverLimit ≤ s.uptime)
  | none => false

/-- HANDOVER_TIMEOUT (R52). -/
def execHandoverTimeout (s : State) : Result := .next (s.onlyIf s.handoverDue (s.finish s.endHandover))

/-- R58: the run-up timer has ended in DIRECT. -/
def State.runupDue (s : State) (p : Pump) : Bool :=
  (s.ch.get p).state == .direct && s.reached (s.ch.get p).seqTimer

/-- DOL_RUNUP_END (R58). -/
def execDolRunupEnd (p : Pump) (s : State) : Result := .next (s.onlyIf (s.runupDue p) (s.finish (s.enterRunning p)))

/-- R59: the star timer has ended in STAR. -/
def State.starDue (s : State) (p : Pump) : Bool := (s.ch.get p).state == .star && s.reached (s.ch.get p).seqTimer

/-- STAR_TIMER_END (R59). -/
def execStarTimerEnd (p : Pump) (s : State) : Result := .next (s.onlyIf (s.starDue p) (s.finish (s.changeOver p)))

/-- GUARD_GRANT (R77). -/
def execGuardGrant (g : GuardPair) (s : State) : Result :=
  .next (s.onlyIf (s.grantDue g).isSome (s.finish (s.takeGrant g)))

/-- R60: min_run has passed for a RUNNING channel with a deferred stop. -/
def State.minRunDue (s : State) (p : Pump) : Bool :=
  let c := s.ch.get p
  c.state == .running && c.deferred && c.minRunPassed s.uptime

/-- MIN_RUN_END (R60). -/
def execMinRunEnd (p : Pump) (s : State) : Result := .next (s.onlyIf (s.minRunDue p) (s.finish (s.enterStopping p)))

/-- FEEDBACK_DEADLINE (R63 to R65). -/
def execFeedbackDeadline (p : Pump) (s : State) : Result :=
  .next (s.onlyIf (s.reached (s.ch.get p).fbDeadline) (s.finish (s.lockOut p (s.ch.get p).deadlineCause)))

/-- R62: the rest expiry is reached with the channel IDLE. -/
def State.restDue (s : State) (p : Pump) : Bool := (s.ch.get p).state == .idle && s.reached (s.ch.get p).rest

/-- R62: the resting mark clears and the channel tests whether to join the queue. -/
def State.endRest (s : State) (p : Pump) : State := (s.mapCh p fun c => { c with rest := none }).testJoin p

/-- REST_END (R62). -/
def execRestEnd (p : Pump) (s : State) : Result := .next (s.onlyIf (s.restDue p) (s.finish (s.endRest p)))

/-- RESTART_HOLD_END (R91). -/
def execRestartHoldEnd (s : State) : Result := .next (s.onlyIf (s.reached s.sa.hold) (s.finish s.endHold))

/-- STAGGER_END (R80). -/
def execStaggerEnd (s : State) : Result := .next (s.onlyIf s.staggerDue (s.finish s.endStagger))

/-- R86: the leaving of a window is taken, and an offer is due. -/
def State.takeWindow (s : State) : State := (s.mapSa fun a => { a with windowMark := s.uptime }).askOffer

/-- HISTORY_WINDOW_END (R86). -/
def execHistoryWindowEnd (s : State) : Result := .next (s.onlyIf s.windowLeft (s.finish s.takeWindow))

end Sys2Proof.Machine
end

