-- ==== Sys2Proof/Machine/RakeEvents.lean ====
section
/-! DEFINITION. The meanings of the timer events of the rake. -/

namespace Sys2Proof.Machine

/-- R87: the rake inrush timer ends: the permit is released and the timer cleared. -/
def State.endInrush (s : State) : State := (s.releasePermit .rake).mapSa fun a => { a with rakeInrush := none }

/-- RAKE_INRUSH_TIMER_END (R87). -/
def execRakeInrushTimerEnd (s : State) : Result :=
  .next (s.onlyIf (s.reached s.sa.rakeInrush) (s.finish s.endInrush))

/-- R102, R103, R106: the travel timer has ended in LOWERING, RAISING or HOMING. -/
def State.travelDue (s : State) : Bool :=
  (s.rc.state == .lowering || s.rc.state == .raising || s.rc.state == .homing) && s.reached s.rc.travel

/-- RAKE_TRAVEL_TIMEOUT (R102, R103, R106). -/
def execRakeTravelTimeout (s : State) : Result := .next (s.onlyIf s.travelDue (s.finish (s.rakeLock .travel)))

/-- R104: the backoff timer has ended in JAM_BACKOFF. -/
def State.backoffDue (s : State) : Bool := s.rc.state == .jamBackoff && s.reached s.rc.backoff

/-- JAM_BACKOFF_END (R104). -/
def execJamBackoffEnd (s : State) : Result := .next (s.onlyIf s.backoffDue (s.finish s.rakeBackoffEnd))

/-- R105: the discharge timer has ended in DISCHARGE. -/
def State.dischargeDue (s : State) : Bool := s.rc.state == .discharge && s.reached s.rc.discharge

/-- DISCHARGE_END (R105). -/
def execDischargeEnd (s : State) : Result := .next (s.onlyIf s.dischargeDue (s.finish s.rakeComplete))

/-- RAKE_INTERVAL_EXPIRY (R98). -/
def execRakeIntervalExpiry (s : State) : Result :=
  .next (s.onlyIf (s.reached s.rc.interval) (s.finish s.intervalExpiry))

/-- R111: the blinding timer ends: the condition becomes true. -/
def State.blind (s : State) : State := (s.mapRc fun r => { r with blindTimer := none, blinded := true }).post 39 true

/-- BLINDING_TIMER_END (R111). -/
def execBlindingTimerEnd (s : State) : Result := .next (s.onlyIf (s.reached s.rc.blindTimer) s.blind)

end Sys2Proof.Machine
end

