-- ==== Sys2Proof/Machine/PortEvents.lean ====
section
/-! DEFINITION. The meanings of the events of the links, the store and the reply buffers, and of the arrivals
that reach no owner. -/

namespace Sys2Proof.Machine

/-- LINK_TIMEOUT (R156, R157). -/
def execLinkTimeout (p : Port) (s : State) : Result := .next (s.onlyIf (s.linkDue p) (s.finish (s.silence p)))

/-- STORE_WRITE_COMPLETE (R167, R168). -/
def execStoreWriteComplete (r : StoreResult) (s : State) : Result :=
  .next (s.onlyIf (s.ss.store != .idle) (s.completeWrite r))

/-- SNAPSHOT_DUE (R168). -/
def execSnapshotDue (s : State) : Result := .next (s.onlyIf (decide (s.ss.nextSnapshot ≤ s.uptime)) s.takeSnapshot)

/-- READ_REPLY (R147). -/
def execReadReply (p : Port) (n : Nat) (s : State) : Result := .next (s.readTransaction p n)

/-- MALFORMED_FRAME (R145, R146). A write arrival that is not malformed is not this command's and changes
nothing (notes/assumptions/2.md). -/
def execMalformedFrame (p : Port) (dir : Byte) (frame : List Byte) (s : State) : Result :=
  .next (match classifyArrival p dir frame with
    | some (.malformed tc) => s.turnAway p tc .malformed
    | some (.unknown _ _) => s
    | some (.wellFormed _) => s
    | none => s)

/-- UNKNOWN_REQUEST (R146). A code that Table 11-3 holds is not this command's and changes nothing. -/
def execUnknownRequest (p : Port) (tag code : Byte) (s : State) : Result :=
  .next (s.onlyIf (paramLength code.toNat).isNone (s.turnAway p (some (tag, code)) .unknownRequest))

end Sys2Proof.Machine
end

