-- ==== Sys2Proof/Machine/Requests.lean ====
section
/-! DEFINITION. The meanings of the 24 requests of Table 9-1. Each is its owner's act, put between the port
controller's checks and its reply by `State.request` (R149). -/

namespace Sys2Proof.Machine

/-! ### Port controllers -/

/-- READ_IDENTITY (R155). -/
def execReadIdentity (p : Port) (tag : Byte) (s : State) : Result :=
  .next (s.request p tag 0x01 fun s => (s, .ok (s.identityBytes p)))

/-- READ_STATUS (R154). -/
def execReadStatus (p : Port) (tag sect : Byte) (s : State) : Result :=
  .next (s.request p tag 0x02 fun s =>
    match s.sectionBytes sect.toNat with
    | some b => (s, .ok (sect :: b))
    | none => (s, .refuse .outOfRange (some sect.toNat)))

/-- The last refusal as READ_REFUSAL returns it, an optional field, and the count (Table 11-3). -/
def refusalBytes (r : Option LastRefusal) (count : Nat) : List Byte :=
  (match r with
   | some x =>
     [1#8, x.code, x.tag, byteOf x.reason.code] ++ beBytes 2 (x.detail.getD 0) ++ beBytes 6 x.uptime
   | none => List.replicate 12 0#8) ++ [byteOf count]

/-- READ_REFUSAL (R152). -/
def execReadRefusal (p : Port) (tag : Byte) (s : State) : Result :=
  .next (s.request p tag 0x03 fun s =>
    let c := s.ports.get p
    (s.mapPort p fun c => { c with refusals := 0 }, .ok (refusalBytes c.lastRefusal c.refusals)))

/-- SET_ATTENTION (R153). -/
def execSetAttention (p : Port) (tag threshold : Byte) (s : State) : Result :=
  .next (s.request p tag 0x04 fun s =>
    if 1 ≤ threshold.toNat ∧ threshold.toNat ≤ 3 then
      ((s.mapPort p fun c => { c with threshold := threshold.toNat }).refreshLines, .ok [threshold])
    else (s, .refuse .outOfRange (some threshold.toNat)))

/-! ### LIU -/

/-- READ_INPUTS (R11). -/
def execReadInputs (p : Port) (tag : Byte) (s : State) : Result :=
  .next (s.request p tag 0x10 fun s =>
    (s.mapLiu fun u => { u with flags := u.flags.set p 0#40 },
     .ok (inputBits s.liu.deb ++ inputBits (s.liu.flags.get p))))

/-- SIM_ENTER (R14). -/
def execSimEnter (p : Port) (tag : Byte) (wellMm inletMm : BitVec 16) (s : State) : Result :=
  .next (s.request p tag 0x11 fun s =>
    if s.simOn then (s, .refuse .simActive none)
    else
      match s.simObstacle with
      | some n => (s, .refuse .simConditions (some n))
      | none =>
        let w := clampLevel wellMm.toNat
        let i := clampLevel inletMm.toNat
        (s.finish (s.simStart w i), .ok (beBytes 2 w ++ beBytes 2 i)))

/-- SIM_SET (R15). -/
def execSimSet (p : Port) (tag : Byte) (wellMm inletMm : BitVec 16) (s : State) : Result :=
  .next (s.request p tag 0x12 fun s =>
    if s.simOn then
      let w := clampLevel wellMm.toNat
      let i := clampLevel inletMm.toNat
      (s.finish (s.simSetLevels w i), .ok (beBytes 2 w ++ beBytes 2 i))
    else (s, .refuse .notInSim none))

/-- SIM_EXIT (R16). -/
def execSimExit (p : Port) (tag : Byte) (s : State) : Result :=
  .next (s.request p tag 0x13 fun s =>
    if s.simOn then (s.finish (s.simEnd .panelExit), .ok []) else (s, .refuse .notInSim none))

/-! ### SU and the starter channels -/

/-- The present pump a request's pump number names (0.10). -/
def State.pumpNamed (s : State) (n : Byte) : Option Pump :=
  match Pump.ofNum n.toNat with
  | some p => if s.present p then some p else none
  | none => none

/-- R43: the lease as applied, 10 to 3600 s. -/
def clampLease (n : Nat) : Nat := min 3600 (max 10 n)

/-- R43: the pump's selector has AUTO active and HAND inactive. -/
def State.selectorAuto (s : State) (q : Pump) : Bool := s.input (pumpInput q 1) && !s.input (pumpInput q 0)

/-- R43: a manual entry made or replaced, with the pump's source re-derived. -/
def State.makeEntry (s : State) (q : Pump) (p : Port) (act : Action) (lease : Nat) : State :=
  (s.mapSu fun u =>
    { u with
      entry := u.entry.set q (some ⟨p, act, s.uptime + lease * 1000, u.stamp⟩)
      stamp := u.stamp + 1 }).rederive q

/-- PUMP_MANUAL (R43). -/
def execPumpManual (p : Port) (tag pump : Byte) (act : Action) (lease : BitVec 16) (s : State) : Result :=
  .next (s.request p tag 0x20 fun s =>
    match s.pumpNamed pump with
    | none => (s, .refuse .noSuchPump (some pump.toNat))
    | some q =>
      if !s.selectorAuto q then (s, .refuse .selectorNotAuto (some pump.toNat))
      else if act = .run ∧ (s.ch.get q).state = .lockedOut then (s, .refuse .pumpLocked (some pump.toNat))
      else
        let l := clampLease lease.toNat
        (s.finish (s.makeEntry q p act l), .ok ([pump, byteOf (actionCode act)] ++ beBytes 2 l)))

/-- PUMP_RELEASE (R44). -/
def execPumpRelease (p : Port) (tag pump : Byte) (s : State) : Result :=
  .next (s.request p tag 0x21 fun s =>
    match s.pumpNamed pump with
    | none => (s, .refuse .noSuchPump (some pump.toNat))
    | some q => (s.finish (s.removeEntry q), .ok [pump, flagByte (s.su.entry.get q).isSome]))

/-- RESET_LOCKOUT (R68). The state in the reply is the one after the whole event (notes/assumptions/19.md). -/
def execResetLockout (p : Port) (tag pump : Byte) (s : State) : Result :=
  .next (s.request p tag 0x22 fun s =>
    match s.pumpNamed pump with
    | none => (s, .refuse .noSuchPump (some pump.toNat))
    | some q =>
      if s.input (pumpInput q 3) then (s, .refuse .tripPresent (some pump.toNat))
      else
        let t := if (s.ch.get q).state = .lockedOut then s.finish (s.endLockout q) else s
        (t, .ok [pump, byteOf (t.ch.get q).state.code]))

/-! ### RC -/

/-- RAKE_REQUEST (R96). -/
def execRakeRequest (p : Port) (tag : Byte) (s : State) : Result :=
  .next (s.request p tag 0x30 fun s =>
    let t := s.finish s.rakeAdd
    (t, .ok [byteOf t.rc.owed, flagByte (decide (8 ≤ s.rc.owed))]))

/-- RESET_SCREEN (R108). -/
def execResetScreen (p : Port) (tag : Byte) (s : State) : Result :=
  .next (s.request p tag 0x31 fun s =>
    if s.rc.state = .locked then
      let t := s.finish s.rakeUnlock
      (t, .ok [byteOf t.rc.state.code])
    else (s, .refuse .screenNotLocked none))

/-! ### AT -/

/-- R126: the points of one priority whose unseen flag for a port is set, by point number. -/
def State.unseenOf (s : State) (p : Port) (prio : Nat) : List Nat :=
  ((List.range 46).map (· + 1)).filter fun n => (s.point n).unseen.get p && s.priority n == prio

/-- R126: the points unseen by a port, priority 1 first, then by point number. -/
def State.unseenPoints (s : State) (p : Port) : List Nat := s.unseenOf p 1 ++ s.unseenOf p 2 ++ s.unseenOf p 3

/-- R126: a port's unseen flag of one point cleared. -/
def State.seePoint (p : Port) (s : State) (n : Nat) : State :=
  s.setPoint n { s.point n with unseen := (s.point n).unseen.set p false }

/-- READ_ALARMS (R126, R175). -/
def execReadAlarms (p : Port) (tag : Byte) (s : State) : Result :=
  .next (s.request p tag 0x40 fun s =>
    let all := s.unseenPoints p
    let got := all.take 16
    ((got.foldl (State.seePoint p) s).refreshLines,
     .ok ([byteOf (all.length - got.length), byteOf got.length] ++ got.flatMap s.alarmEntry)))

/-- READ_ATTENTION (R127). -/
def execReadAttention (p : Port) (tag : Byte) (s : State) : Result :=
  .next (s.request p tag 0x41 fun s =>
    let all := s.unseenPoints p
    (s, .ok (byteOf all.length ::
      match all with
      | n :: _ => 1#8 :: s.alarmEntry n
      | [] => List.replicate 16 0#8)))

/-- R124: the points in ACTIVE_UNACK or CLEARED_UNACK among those a number names; 0 names every point. -/
def State.unackedPoints (s : State) (n : Nat) : List Nat :=
  (if n = 0 then (List.range 46).map (· + 1) else [n]).filter fun k => ackedState (s.point k).state != (s.point k).state

/-- ACK_ALARM (R124, R125). -/
def execAckAlarm (p : Port) (tag point : Byte) (s : State) : Result :=
  .next (s.request p tag 0x42 fun s =>
    if 46 < point.toNat then (s, .refuse .outOfRange (some point.toNat))
    else
      let ks := s.unackedPoints point.toNat
      (ks.foldl (fun s k => s.ackPoint p k) s, .ok [byteOf ks.length]))

/-! ### RL -/

/-- R137, R139: the count of a read, taken as 8 where it is 0 or above 8. -/
def readCount (n : Nat) : Nat := if n = 0 ∨ 8 < n then 8 else n

/-- The payload of READ_LOG (Table 11-3, R175). -/
def State.logPayload (s : State) (cursor : Nat) (rs : List LogRec) : List Byte :=
  beBytes 2 s.rl.log.length ++ beBytes 4 s.rl.nextSeq ++ beBytes 4 cursor ++ [byteOf rs.length] ++
    rs.flatMap LogRec.bytes

/-- R139: the records a panel read starts from, and the GAP flag. The cursor is compared with the next sequence number
as a number, also while that is 0 (R134): DESIGN CHOICE, notes/assumptions/44.md. -/
def State.browse (s : State) : List LogRec × Bool :=
  if s.rl.log.any fun r => r.seq == s.rl.cursor then (s.rl.log.filter fun r => decide (s.rl.cursor ≤ r.seq), false)
  else if s.rl.cursor < s.rl.nextSeq then (s.rl.log.filter fun r => decide (s.rl.cursor < r.seq), true)
  else ([], false)

/-- R139: the cursor after a panel read of the records returned. After the record with seq 4294967295 it is 0: DESIGN
CHOICE, notes/assumptions/43.md. -/
def State.cursorAfter (s : State) (rs : List LogRec) (gap : Bool) : Nat :=
  match rs.getLast? with
  | some r => seqAfter r.seq
  | none => if gap then s.rl.nextSeq else s.rl.cursor

/-- READ_LOG (R137 for the town, R139 for the panel). -/
def execReadLog (p : Port) (tag count : Byte) (s : State) : Result :=
  .next (s.request p tag 0x50 fun s =>
    let n := readCount count.toNat
    match p with
    | .town => (s, .ok (s.logPayload 0 (s.rl.log.take n)))
    | .panel =>
      let b := s.browse
      let rs := b.1.take n
      let c := s.cursorAfter rs b.2
      ({ s with rl := { s.rl with cursor := c } }, .accept (s.logPayload c rs) b.2))

/-- R140: the cursor that a seek sets. The number is compared with the next sequence number as a number, also while
that is 0 (R134): DESIGN CHOICE, notes/assumptions/44.md. -/
def State.seekTo (s : State) (n : Nat) : Nat :=
  if n = 0 then s.oldestSeq.getD s.rl.nextSeq else if s.rl.nextSeq < n then s.rl.nextSeq else n

/-- SEEK_LOG (R140). -/
def execSeekLog (p : Port) (tag : Byte) (seq : BitVec 32) (s : State) : Result :=
  .next (s.request p tag 0x51 fun s =>
    let c := s.seekTo seq.toNat
    ({ s with rl := { s.rl with cursor := c } }, .ok (beBytes 4 c)))

/-- R138: the log after a release through a sequence number. -/
def State.releaseLog (s : State) (n : Nat) : State :=
  { s with rl := { s.rl with log := s.rl.log.filter fun r => decide (n < r.seq) } }

/-- RELEASE_LOG (R138, R136). The number still held is the one right after the removal
(notes/assumptions/33.md). -/
def execReleaseLog (p : Port) (tag : Byte) (seq : BitVec 32) (s : State) : Result :=
  .next (s.request p tag 0x52 fun s =>
    let t := s.releaseLog seq.toNat
    (t.evalFullAfterRelease,
     .ok (beBytes 2 (s.rl.log.length - t.rl.log.length) ++ beBytes 2 t.rl.log.length)))

/-- R142: the clock set, its next advance one second from now, with its record and the condition of
CLOCK_NOT_SET. -/
def State.setClock (s : State) (time : Nat) : State :=
  let old := s.clockTime
  let s := { s with rl :=
    { s.rl with clock := time, clockValid := true, nextAdvance := some (s.uptime + Config.clockSecond) } }
  (s.append (.clockSet old time)).post 45 false

/-- SET_CLOCK (R142). -/
def execSetClock (p : Port) (tag : Byte) (time : BitVec 32) (s : State) : Result :=
  .next (s.request p tag 0x53 fun s =>
    (s.setClock time.toNat, .ok (optBytes 4 s.clockTime ++ beBytes 4 time.toNat)))

/-! ### SS -/

/-- The payload of READ_SETTING (R161, Table 11-3). -/
def State.settingBytes (s : State) (k : Nat) : List Byte :=
  let r := itemRange k
  beBytes 2 k ++ beBytes 4 (s.item k) ++ beBytes 4 r.least ++ beBytes 4 r.greatest ++ beBytes 4 r.default ++
    [byteOf (holderCode s.ss.holder)] ++ optBytes 4 (stagedValue s.ss.entries k)

/-- READ_SETTING (R161). -/
def execReadSetting (p : Port) (tag : Byte) (item : BitVec 16) (s : State) : Result :=
  .next (s.request p tag 0x60 fun s =>
    if isItem item.toNat then (s, .ok (s.settingBytes item.toNat))
    else (s, .refuse .noSuchItem (some item.toNat)))

/-- EDIT_SETTING (R163). -/
def execEditSetting (p : Port) (tag : Byte) (item : BitVec 16) (value : BitVec 32) (s : State) : Result :=
  .next (s.request p tag 0x61 fun s =>
    match s.editRefusal p item.toNat value.toNat with
    | some (r, d) => (s, .refuse r d)
    | none =>
      let t := s.acceptEdit p item.toNat value.toNat
      (t, .ok (beBytes 2 item.toNat ++ beBytes 4 value.toNat ++ beBytes 4 (s.item item.toNat) ++
        [byteOf t.ss.entries.length])))

/-- COMMIT_SETTINGS (R165, R166). The dropped-claim mark of the port is cleared whatever the outcome
(R164). -/
def execCommitSettings (p : Port) (tag : Byte) (s : State) : Result :=
  .next (s.request p tag 0x62 fun s =>
    let t := s.clearDropped p
    match s.stagingGate p with
    | some r => (t, .refuse r none)
    | none =>
      match s.inconsistentItem with
      | some k => (t, .refuse .inconsistent (some k))
      | none => (s.finish (t.commit p), .ok [byteOf s.commitCount]))

/-- DISCARD_SETTINGS (R164). -/
def execDiscardSettings (p : Port) (tag : Byte) (s : State) : Result :=
  .next (s.request p tag 0x63 fun s =>
    let t := s.clearDropped p
    match s.stagingGate p with
    | some r => (t, .refuse r none)
    | none => (t.freeStaging, .ok [byteOf s.ss.entries.length]))

end Sys2Proof.Machine
end

