-- ==== Sys2Proof/Machine/Clock.lean ====
section
/-! DEFINITION. The part's own timers: which timer event is due at the present uptime, in the fixed order
that notes/assumptions/4.md states. The events that come from outside are not among them. -/

namespace Sys2Proof.Machine

/-- The debounce intervals that have run out (R9). -/
def State.dueInputs (s : State) : List (Bool × Instr) :=
  (List.finRange 40).map fun k => (s.inputDue k.val, .inputChange k)

/-- The timers of measurement, balance and overflow. -/
def State.dueField (s : State) : List (Bool × Instr) :=
  [(s.balanceDue, .balanceTick),
   (s.flowDue, .flowTick),
   (s.updateDue, .overflowRecordUpdate),
   (s.clockDue, .clockAdvance),
   (s.summaryDue, .summaryBoundary),
   (s.disagreeDue, .disagreeTimerEnd),
   (s.simLimitDue, .simTimeLimit),
   (s.openDue, .overflowOpenTimerEnd),
   (s.closeDue, .overflowCloseTimerEnd)]

/-- The timers of one pump. -/
def State.duePump (s : State) (p : Pump) : List (Bool × Instr) :=
  [(s.runupDue p, .dolRunupEnd p),
   (s.starDue p, .starTimerEnd p),
   ((s.grantDue (.pump p)).isSome, .guardGrant (.pump p)),
   (s.minRunDue p, .minRunEnd p),
   (s.reached (s.ch.get p).fbDeadline, .feedbackDeadline p),
   (s.restDue p, .restEnd p),
   (s.entryDue p, .manualEntryExpiry p)]

/-- The timers of staging, the arbiter, the rake, the links and the store. -/
def State.dueStation (s : State) : List (Bool × Instr) :=
  [(s.dutyDue, .dutyHoldExpiry),
   (s.handoverDue, .handoverTimeout),
   ((s.grantDue .rake).isSome, .guardGrant .rake),
   (s.reached s.sa.rakeInrush, .rakeInrushTimerEnd),
   (s.travelDue, .rakeTravelTimeout),
   (s.backoffDue, .jamBackoffEnd),
   (s.dischargeDue, .dischargeEnd),
   (s.reached s.rc.interval, .rakeIntervalExpiry),
   (s.reached s.rc.blindTimer, .blindingTimerEnd),
   (s.reached s.sa.hold, .restartHoldEnd),
   (s.staggerDue, .staggerEnd),
   (s.windowLeft, .historyWindowEnd),
   (s.linkDue .panel, .linkTimeout .panel),
   (s.linkDue .town, .linkTimeout .town),
   (decide (s.ss.nextSnapshot ≤ s.uptime), .snapshotDue)]

/-- Every timer event with whether it is due, in order. -/
def State.timers (s : State) : List (Bool × Instr) :=
  s.dueInputs ++ s.dueField ++ Pump.all.flatMap s.duePump ++ s.dueStation

/-- The first timer event that is due. -/
def State.nextDue (s : State) : Option Instr := (s.timers.find? fun e => e.1).map Prod.snd

/-- A millisecond of uptime passes (0.12; notes/assumptions/1.md). -/
def State.passTime (s : State) : State := { s with uptime := s.uptime + 1 }

end Sys2Proof.Machine
end

