-- ==== Sys2Proof/Machine/Dispatch.lean ====
section
/-! DEFINITION. The dispatcher: one arm per command, each one direct call of the command's meaning. -/

namespace Sys2Proof.Machine

/-- The command's effect on everything but the queue. -/
def exec (i : Instr) (s : State) : Host.Outcome State Fault Refusal :=
  match i with
  | .reset cause => Sys2Proof.Machine.execReset cause s
  | .sampleEvent c raw => Sys2Proof.Machine.execSampleEvent c raw s
  | .rawInputChange k v => Sys2Proof.Machine.execRawInputChange k v s
  | .inputChange k => Sys2Proof.Machine.execInputChange k s
  | .disagreeTimerEnd => Sys2Proof.Machine.execDisagreeTimerEnd s
  | .flowTick => Sys2Proof.Machine.execFlowTick s
  | .balanceTick => Sys2Proof.Machine.execBalanceTick s
  | .summaryBoundary => Sys2Proof.Machine.execSummaryBoundary s
  | .clockAdvance => Sys2Proof.Machine.execClockAdvance s
  | .manualEntryExpiry p => Sys2Proof.Machine.execManualEntryExpiry p s
  | .dutyHoldExpiry => Sys2Proof.Machine.execDutyHoldExpiry s
  | .handoverTimeout => Sys2Proof.Machine.execHandoverTimeout s
  | .dolRunupEnd p => Sys2Proof.Machine.execDolRunupEnd p s
  | .starTimerEnd p => Sys2Proof.Machine.execStarTimerEnd p s
  | .guardGrant g => Sys2Proof.Machine.execGuardGrant g s
  | .minRunEnd p => Sys2Proof.Machine.execMinRunEnd p s
  | .feedbackDeadline p => Sys2Proof.Machine.execFeedbackDeadline p s
  | .restEnd p => Sys2Proof.Machine.execRestEnd p s
  | .restartHoldEnd => Sys2Proof.Machine.execRestartHoldEnd s
  | .staggerEnd => Sys2Proof.Machine.execStaggerEnd s
  | .historyWindowEnd => Sys2Proof.Machine.execHistoryWindowEnd s
  | .rakeInrushTimerEnd => Sys2Proof.Machine.execRakeInrushTimerEnd s
  | .rakeTravelTimeout => Sys2Proof.Machine.execRakeTravelTimeout s
  | .jamBackoffEnd => Sys2Proof.Machine.execJamBackoffEnd s
  | .dischargeEnd => Sys2Proof.Machine.execDischargeEnd s
  | .rakeIntervalExpiry => Sys2Proof.Machine.execRakeIntervalExpiry s
  | .blindingTimerEnd => Sys2Proof.Machine.execBlindingTimerEnd s
  | .overflowOpenTimerEnd => Sys2Proof.Machine.execOverflowOpenTimerEnd s
  | .overflowCloseTimerEnd => Sys2Proof.Machine.execOverflowCloseTimerEnd s
  | .overflowRecordUpdate => Sys2Proof.Machine.execOverflowRecordUpdate s
  | .simTimeLimit => Sys2Proof.Machine.execSimTimeLimit s
  | .linkTimeout p => Sys2Proof.Machine.execLinkTimeout p s
  | .storeWriteComplete r => Sys2Proof.Machine.execStoreWriteComplete r s
  | .snapshotDue => Sys2Proof.Machine.execSnapshotDue s
  | .readReply p n => Sys2Proof.Machine.execReadReply p n s
  | .malformedFrame p dir frame => Sys2Proof.Machine.execMalformedFrame p dir frame s
  | .unknownRequest p tag code => Sys2Proof.Machine.execUnknownRequest p tag code s
  | .readIdentity p tag => Sys2Proof.Machine.execReadIdentity p tag s
  | .readStatus p tag sect => Sys2Proof.Machine.execReadStatus p tag sect s
  | .readRefusal p tag => Sys2Proof.Machine.execReadRefusal p tag s
  | .setAttention p tag threshold => Sys2Proof.Machine.execSetAttention p tag threshold s
  | .readInputs p tag => Sys2Proof.Machine.execReadInputs p tag s
  | .simEnter p tag wellMm inletMm => Sys2Proof.Machine.execSimEnter p tag wellMm inletMm s
  | .simSet p tag wellMm inletMm => Sys2Proof.Machine.execSimSet p tag wellMm inletMm s
  | .simExit p tag => Sys2Proof.Machine.execSimExit p tag s
  | .pumpManual p tag pump act lease => Sys2Proof.Machine.execPumpManual p tag pump act lease s
  | .pumpRelease p tag pump => Sys2Proof.Machine.execPumpRelease p tag pump s
  | .resetLockout p tag pump => Sys2Proof.Machine.execResetLockout p tag pump s
  | .rakeRequest p tag => Sys2Proof.Machine.execRakeRequest p tag s
  | .resetScreen p tag => Sys2Proof.Machine.execResetScreen p tag s
  | .readAlarms p tag => Sys2Proof.Machine.execReadAlarms p tag s
  | .readAttention p tag => Sys2Proof.Machine.execReadAttention p tag s
  | .ackAlarm p tag point => Sys2Proof.Machine.execAckAlarm p tag point s
  | .readLog p tag count => Sys2Proof.Machine.execReadLog p tag count s
  | .seekLog p tag seq => Sys2Proof.Machine.execSeekLog p tag seq s
  | .releaseLog p tag seq => Sys2Proof.Machine.execReleaseLog p tag seq s
  | .setClock p tag time => Sys2Proof.Machine.execSetClock p tag time s
  | .readSetting p tag item => Sys2Proof.Machine.execReadSetting p tag item s
  | .editSetting p tag item value => Sys2Proof.Machine.execEditSetting p tag item value s
  | .commitSettings p tag => Sys2Proof.Machine.execCommitSettings p tag s
  | .discardSettings p tag => Sys2Proof.Machine.execDiscardSettings p tag s
  | .backupDomainSupplyLoss => Sys2Proof.Machine.execBackupDomainSupplyLoss s

end Sys2Proof.Machine
end

