-- ==== Sys2Proof/Machine/Step.lean ====
section
/-! DEFINITION. The step: the command at the front of the queue, or with an empty queue the part's own
passage of time. -/

namespace Sys2Proof.Machine

/-- One step. With commands waiting, the first is taken with the queue's rest. With none, the first timer
event that is due is taken, and where none is due a millisecond passes (notes/assumptions/1.md). -/
def step (s : State) : Host.Outcome State Fault Refusal :=
  match s.pending with
  | c :: rest => exec c { s with pending := rest }
  | [] =>
    match s.nextDue with
    | some c => exec c s
    | none => .next s.passTime

/-- The state with the command a word spells put at the front of the queue. No row of the table has bits, so
no word spells a command. -/
def State.withFetchWord (s : State) (nbits w : Nat) : State :=
  match decodeTableWord nbits w with
  | some c => { s with pending := c :: s.pending }
  | none => s

end Sys2Proof.Machine
end

