-- ==== Sys2Proof/Safety.lean ====
section
/-! DEFINITION. What counts as a safe run of the part: the invariants that the manual prints in bold, as
predicates of one state, and the shapes of a reply that claims about requests use. -/

namespace Sys2Proof.Machine

/-- R77: of every guarded pair at most one member is active. -/
def State.guardsApart (s : State) : Prop := ∀ g : GuardPair, ¬((s.pair g).firstOn = true ∧ (s.pair g).secondOn = true)

/-- R79, Table 4-1: a pump in its start sequence holds the inrush permit. So at most one pump is in one. -/
def State.sequenceHolds (s : State) : Prop := ∀ p : Pump, (s.ch.get p).inSequence = true → s.sa.holder = .pump p

/-- R132: at most 512 records, their sequence numbers strictly rising, and every one of them below the next
sequence number unless that is 0, which stands for no number (R134). -/
def Rl.ordered (r : Rl) : Prop :=
  r.log.length ≤ 512 ∧ r.log.Pairwise (fun a b => a.seq < b.seq) ∧ (r.nextSeq ≠ 0 → ∀ x ∈ r.log, x.seq < r.nextSeq)

/-- R2 to R5: a level channel's history, runs and filtered level agree with its state. -/
def LevelChan.sound (c : LevelChan) : Prop :=
  (∀ l ∈ c.hist, l ≤ 20000) ∧ (∀ l, c.level = some l → l ≤ 20000) ∧
    match c.state with
    | .init => c.hist.length = c.goodRun ∧ c.goodRun < 8 ∧ c.level = none
    | .good => c.hist.length = 8 ∧ c.level = some (c.hist.sum / 8)
    | .suspect => c.hist.length = 8 ∧ c.level.isSome = true
    | .failed => c.hist.length = c.goodRun ∧ c.goodRun < 8

/-- Both level channels are sound. -/
def State.levelsSound (s : State) : Prop := ∀ c : Loop, (s.liu.chan.get c).sound

/-- R96: the rake's owed count lies between 0 and 8. -/
def State.owedBound (s : State) : Prop := s.rc.owed ≤ 8

/-- R26: an estimate lies within 0 to 65535 l/s. -/
def State.estimateBound (s : State) : Prop := ∀ i, s.be.estimate = some i → i ≤ 65535

/-- R121: the Alarm Table holds 46 records. -/
def State.pointsHeld (s : State) : Prop := s.alarms.points.length = 46

/-- R129, with R122: the beacon is as the points say, and a disabled point is NORMAL. -/
def State.beaconRight (s : State) : Prop :=
  s.alarms.beacon = s.beaconOf ∧ ∀ n, 1 ≤ n → n ≤ 46 → s.enabled n = false → (s.point n).state = .normal

/-- R128: both attention lines are as the unseen flags, the priorities and the thresholds say. -/
def State.linesRight (s : State) : Prop := ∀ p : Port, s.alarms.line.get p = s.lineOf p

/-- R81, R82: no pump stands twice in the start queue or among the hand waiters; a pump is in the queue
exactly when its channel is QUEUED under AUTO or MANUAL, and a hand waiter exactly when it is QUEUED under
HAND; a gated channel asks for LINE (R73); and none is QUEUED under OFF (R69). -/
def State.queuesRight (s : State) : Prop :=
  s.sa.queue.Nodup ∧ s.sa.waiters.Nodup ∧
    ∀ p : Pump,
      (p ∈ s.sa.queue ↔ (s.ch.get p).state = .queued ∧ (s.ch.get p).staged = true) ∧
      (p ∈ s.sa.waiters ↔ (s.ch.get p).state = .queued ∧ (s.ch.get p).source = .hand) ∧
      ((s.ch.get p).gated = true → (s.ch.get p).asksLine = true) ∧
      ((s.ch.get p).state = .queued → (s.ch.get p).source ≠ .off)

/-- R38: demand is as its inputs give it, and R46: the target set is the first N eligible pumps. -/
def State.targetRight (s : State) : Prop := s.su.d = s.demand ∧ s.su.target = s.targetSet

/-- R46, R47, R52: every pump of the roster has the request posted that staging gives it: under AUTO, START in the
target and no START outside it, an outgoing pump of a handover apart; under MANUAL, START for a RUN entry that may run
and STOP_NOW for a STOP entry. -/
def State.postsRight (s : State) : Prop :=
  ∀ p ∈ s.su.roster,
    let c := s.ch.get p
    let posted := s.su.posted.get p
    (c.source = .auto → p ∈ s.su.target → posted = .start) ∧
    (c.source = .auto → p ∉ s.su.target → (∀ h, s.su.handover = some h → p ∉ h.outgoing) → posted ≠ .start) ∧
    (∀ e, c.source = .manual → s.su.entry.get p = some e →
      (e.act = .run → s.lowMade = true → c.state ≠ .lockedOut → ¬(c.state = .idle ∧ c.rest ≠ none) → posted = .start) ∧
      (e.act = .stop → posted = .stopNow))

/-- R49: the duty roster holds every present pump exactly once and no absent pump. -/
def State.rosterRight (s : State) : Prop := s.su.roster.Nodup ∧ ∀ p, p ∈ s.su.roster ↔ s.present p = true

/-- R42: every pump's command source is the one its presence, its selector and its entry give it. -/
def State.sourcesRight (s : State) : Prop :=
  ∀ p : Pump, (s.ch.get p).source =
    if s.present p = false then .off
    else match s.input (pumpInput p 0), s.input (pumpInput p 1) with
      | true, false => .hand
      | false, true => if (s.su.entry.get p).isSome then .manual else .auto
      | _, _ => .off

/-- R69: no channel under source OFF asks for LINE: it is UNAVAILABLE, STOPPING or LOCKED_OUT. -/
def State.offRests (s : State) : Prop :=
  ∀ p : Pump, (s.ch.get p).source = .off →
    (s.ch.get p).state = .unavailable ∨ (s.ch.get p).state = .stopping ∨ (s.ch.get p).state = .lockedOut

/-- Table 5-4, R90: the running limit is the one that the power source and the settings give, and no more pumps have
their LINE active under AUTO or MANUAL. -/
def State.linesWithinLimit (s : State) : Prop :=
  s.sa.limit = (match s.sa.power with
    | .mains => s.item 27
    | .generator => min (s.item 27) (s.item 28)
    | .dead => 0) ∧
  (Pump.all.filter fun p =>
    s.lineDriver p && ((s.ch.get p).source == .auto || (s.ch.get p).source == .manual)).length ≤ s.sa.limit

/-- R44: every manual entry belongs to a port whose link is LIVE. -/
def State.entriesLive (s : State) : Prop :=
  ∀ p e, s.su.entry.get p = some e → (s.ports.get e.port).link = .live

/-- R162: the staging claim belongs to a port whose link is LIVE, and a free copy is empty. -/
def State.claimLive (s : State) : Prop :=
  match s.ss.holder with
  | some p => (s.ports.get p).link = .live
  | none => s.ss.entries = []

/-- R161, R163, R165, R169: the active settings lie in their ranges and pass the checks of Table 10-3, and so
does the range of every staged value. -/
def State.settingsRight (s : State) : Prop :=
  settingsSound s.ss.active = true ∧ ∀ e ∈ s.ss.entries, isItem e.1 = true ∧ inItemRange e.1 e.2 = true

/-- `s` with the blocks that the end of an event can reach taken from `t`: the Staging Unit, the channels,
the guard, the arbiter, the rake, the Alarm Table and the log. A claim `t = s.withStation t` says that
nothing else changed. -/
def State.withStation (s t : State) : State :=
  { s with
    su := t.su
    ch := t.ch
    cg := t.cg
    sa := t.sa
    rc := t.rc
    alarms := t.alarms
    rl := t.rl
    work := t.work }

/-- The port's reply buffer holds an unread reply of acceptance with these fields (R147, R149). -/
def State.accepted (t : State) (p : Port) (tag code : Byte) (payload : List Byte) : Prop :=
  ∃ r : Reply, (t.ports.get p).buffer = .ready r ∧ r.tag = tag ∧ r.code = code ∧ r.refusal = none ∧ r.payload = payload

/-- The port's reply buffer holds an unread refusal with these fields (R147, R151). -/
def State.refused (t : State) (p : Port) (tag code : Byte) (reason : Reason) (detail : Option Nat) : Prop :=
  ∃ r : Reply, (t.ports.get p).buffer = .ready r ∧ r.tag = tag ∧ r.code = code ∧ r.refusal = some (reason, detail) ∧
    r.payload = []

end Sys2Proof.Machine
end

