-- ==== Sys2Proof/Certificates/Slice0/Obligations.lean ====
section
/-! DEFINITION. The statements for the provers. A statement that reaches only the state before the Staging
Unit settles names it `m`: the event then ends with `State.finish`, whose frame is `FinishFrame`. -/

open Sys2Proof Sys2Proof.Machine

/-! ### The machine -/

/-- A step takes the front command (log 9): the model's queue. With none waiting the part's own time runs (log 1 and
log 4): the model's choice. -/
def Obligations.StepTakesFront : Prop :=
  (∀ (c : Instr) (rest : List Instr) (s : State), s.pending = c :: rest → step s = exec c { s with pending := rest }) ∧
  (∀ s : State, s.pending = [] →
    (∀ c, s.nextDue = some c → step s = exec c s) ∧
    (s.nextDue = none → step s = .next { s with uptime := s.uptime + 1 }))

/-- Every command has a next state, which keeps the queue and, but for a reset, the uptime and the kind and cause of
the last reset. -/
def Obligations.CommandFrame : Prop :=
  ∀ (c : Instr) (s : State), ∃ t, exec c s = .next t ∧ t.pending = s.pending ∧
    ((∀ k, c ≠ .reset k) → t.uptime = s.uptime ∧ t.resetKind = s.resetKind ∧ t.resetCause = s.resetCause)

/-- The end of an event leaves the level unit, the balance, the overflow monitor, the ports and the store as they were,
of staging the flags, the level, the fallback and the entries, and of each channel its source and run seconds; a rake
that is not waiting stays as it was; the reports of the event are taken. Every pump of the roster then has the request
posted that R46 and R47 give it. -/
def Obligations.FinishFrame : Prop :=
  ∀ old m : State,
    let t := old.finish m
    t = m.withStation t ∧
    t.work = ⟨false, false⟩ ∧
    t.su.flags = m.su.flags ∧ t.su.dLevel = m.su.dLevel ∧ t.su.rise = m.su.rise ∧ t.su.fallback = m.su.fallback ∧
    t.su.lf = m.su.lf ∧ t.su.level = m.su.level ∧ t.su.fresh = m.su.fresh ∧ t.su.entry = m.su.entry ∧
    (∀ p, (t.ch.get p).source = (m.ch.get p).source ∧ (t.ch.get p).wear.runSeconds = (m.ch.get p).wear.runSeconds) ∧
    t.sa.power = m.sa.power ∧ t.sa.limit = m.sa.limit ∧ t.sa.hold = m.sa.hold ∧
    (m.rc.state ≠ .waitPermit → t.rc = m.rc ∧ t.alarms = m.alarms ∧ t.rl = m.rl) ∧
    (m.queuesRight → t.postsRight)

/-! ### Frames of bytes -/

/-- R146, R173, R174: a frame is well-formed, and makes the command it makes, exactly when it is that command's frame:
no bit of a request's encoding is dropped and none is read two ways. -/
def Obligations.FrameRoundTrip : Prop :=
  ∀ (i : Instr) (p : Port) (f : List Byte), classifyFrame p f = .wellFormed i ↔ encodeFrame i = some (p, f)

/-- Frames written out byte by byte from Tables 11-2 and 11-3, with their check values, and what each is. -/
def Obligations.FrameWords : Prop :=
  classifyFrame .panel [0x05, 0x01, 0x01, 0x04, 0x7C] = .wellFormed (.readIdentity .panel 1) ∧
  classifyFrame .panel [0x09, 0x29, 0x20, 0x05, 0x00, 0x03, 0x84, 0x97, 0x46] =
    .wellFormed (.pumpManual .panel 41 5 .run 900) ∧
  classifyFrame .town [0x0B, 0x07, 0x61, 0x00, 0x0C, 0x00, 0x00, 0x0C, 0x1C, 0xCD, 0x51] =
    .wellFormed (.editSetting .town 7 12 3100) ∧
  classifyFrame .panel [0x09, 0x29, 0x20, 0x05, 0x02, 0x03, 0x84, 0xF9, 0x26] = .malformed (some (41, 0x20)) ∧
  classifyFrame .panel [0x05, 0x09, 0x7F, 0x12, 0x8C] = .unknown 9 0x7F ∧
  classifyFrame .panel [0x05, 0x01, 0x01, 0x04, 0x7D] = .malformed (some (1, 1)) ∧
  classifyFrame .town [0x05, 0x01] = .malformed none

/-! ### Invariants that every step keeps -/

/-- R77: STAR and DELTA of a pump, UP and DOWN of the rake, are never active together. -/
def Obligations.GuardsApartKept : Prop := ∀ s t : State, s.guardsApart → step s = .next t → t.guardsApart

/-- R79: a pump in its start sequence holds the permit, so at most one is. -/
def Obligations.SequenceHoldsKept : Prop := ∀ s t : State, s.sequenceHolds → step s = .next t → t.sequenceHolds

/-- R132, R134, R135: the log holds at most 512 records with rising sequence numbers. -/
def Obligations.LogOrderedKept : Prop := ∀ s t : State, s.rl.ordered → step s = .next t → t.rl.ordered

/-- R2 to R5: both level channels stay sound. -/
def Obligations.LevelsSoundKept : Prop := ∀ s t : State, s.levelsSound → step s = .next t → t.levelsSound

/-- R81, R82: the start queue and the hand waiters hold exactly the QUEUED pumps, none twice. -/
def Obligations.QueuesRightKept : Prop := ∀ s t : State, s.queuesRight → step s = .next t → t.queuesRight

/-- R129: the beacon follows the unacknowledged points of priority 1. -/
def Obligations.BeaconRightKept : Prop := ∀ s t : State, s.beaconRight → step s = .next t → t.beaconRight

/-- R128: the attention lines follow the unseen flags, the priorities and the thresholds. -/
def Obligations.LinesRightKept : Prop := ∀ s t : State, s.linesRight → step s = .next t → t.linesRight

/-- R161, R163, R165, R169: the active settings are always in range and consistent, and every staged value is in its
range. -/
def Obligations.SettingsRightKept : Prop := ∀ s t : State, s.settingsRight → step s = .next t → t.settingsRight

/-- R38, R46: after every event but a reset demand and the target set are as their inputs give them, however the posts
and the offer of the event moved those inputs. A reset leaves the target set empty (R55). R46, R47, R48: after every
event, a reset too, each pump of the roster has the request posted that its source and those give it. -/
def Obligations.TargetRightKept : Prop :=
  (∀ s t : State, s.queuesRight → s.targetRight → (∀ k rest, s.pending ≠ .reset k :: rest) → step s = .next t →
    t.targetRight) ∧
  (∀ s t : State, s.queuesRight → s.postsRight → step s = .next t → t.postsRight)

/-- R42, R49, R69, R90: the sources, the roster, the rest of the channels under OFF and the count of LINE outputs
within the running limit stay right. R86: when a step adds an entry to the station history or to a pump's, fewer than
the maximum of earlier ones are in the window. -/
def Obligations.StartLimitsKept : Prop :=
  (∀ s t : State, s.queuesRight → s.sourcesRight ∧ s.rosterRight ∧ s.offRests ∧ s.linesWithinLimit →
    step s = .next t → t.sourcesRight ∧ t.rosterRight ∧ t.offRests ∧ t.linesWithinLimit) ∧
  (∀ s t : State, s.queuesRight → step s = .next t →
    (t.sa.hist ≠ s.sa.hist → t.sa.hist ≠ [] →
      ∃ p, t.sa.hist = (if s.sa.hist.length < 8 then s.sa.hist else s.sa.hist.drop 1) ++ [(t.uptime, p)] ∧
        (s.sa.hist.filter fun e => decide (t.uptime - e.1 < t.item 33 * 1000)).length < t.item 32) ∧
    (∀ p, t.sa.pumpHist.get p ≠ s.sa.pumpHist.get p → t.sa.pumpHist.get p ≠ [] →
      t.sa.pumpHist.get p =
        (if (s.sa.pumpHist.get p).length < 12 then s.sa.pumpHist.get p else (s.sa.pumpHist.get p).drop 1) ++ [t.uptime] ∧
      ((s.sa.pumpHist.get p).filter fun u => decide (t.uptime - u < 3600000)).length <
        (t.ch.get p).force.startsPerHour))

/-- R44, R162: every manual entry and the staging claim belong to a port whose link is LIVE. -/
def Obligations.ClaimsLiveKept : Prop :=
  ∀ s t : State, s.entriesLive ∧ s.claimLive → step s = .next t → t.entriesLive ∧ t.claimLive

/-- R96, R26, R121: the owed count, the estimate and the number of alarm records stay in their bounds. -/
def Obligations.BoundsKept : Prop :=
  ∀ s t : State, s.owedBound ∧ s.estimateBound ∧ s.pointsHeld → step s = .next t →
    t.owedBound ∧ t.estimateBound ∧ t.pointsHeld

/-- The invariants hold at State.reset. -/
def Obligations.InvariantsAtReset : Prop :=
  State.reset.guardsApart ∧ State.reset.sequenceHolds ∧ State.reset.rl.ordered ∧ State.reset.levelsSound ∧
  State.reset.queuesRight ∧ State.reset.beaconRight ∧ State.reset.linesRight ∧ State.reset.entriesLive ∧
  State.reset.claimLive ∧ State.reset.settingsRight ∧
  State.reset.targetRight ∧ State.reset.postsRight ∧ State.reset.rosterRight ∧ State.reset.sourcesRight ∧
  State.reset.offRests ∧ State.reset.linesWithinLimit ∧ State.reset.owedBound ∧ State.reset.estimateBound ∧
  State.reset.pointsHeld

/-! ### Shared operations -/

/-- R84, Table 5-2: an offer grants to the first claimant allowed, in the order of the table, and to none while the
permit is not free (R83), whose test R80 gives. R85: the three tests of a queued pump's start, which R92 makes with the
simulation history and with the gated channels counted where the start would be gated. That the stagger has run is read
here off `staggerOn`, the model's own mark, which the event of the stagger's end clears (log 3) and which a lengthened
stagger_s does not set again (log 40): R80 gives no such mark. -/
def Obligations.GrantOrder : Prop :=
  (∀ s : State, s.permitFree = true ↔
    s.sa.holder = .none ∧ s.sa.hold = none ∧ s.sa.power ≠ .dead ∧ s.sa.staggerOn = false) ∧
  (∀ (s : State) (p : Pump),
    let young := fun (window : Nat) (l : List Nat) => (l.filter fun u => decide (s.uptime - u < window)).length
    let asks := fun (c : Chan) =>
      c.state == .direct || c.state == .star || c.state == .changeover || c.state == .running
    let lines := (Pump.all.filter fun q =>
      let c := s.ch.get q
      asks c && !c.gated && (c.source == .auto || c.source == .manual)).length
    let gated := (Pump.all.filter fun q => asks (s.ch.get q) && (s.ch.get q).gated).length
    let test := fun (station own : List Nat) (count : Nat) =>
      young (s.item 33 * 1000) station < s.item 32 ∧ young 3600000 own < (s.ch.get p).force.startsPerHour ∧
        count < s.sa.limit
    (s.liu.sim = none ∨ (s.ch.get p).source ≠ .auto →
      (s.startAllowed p = true ↔ test (s.sa.hist.map Prod.fst) (s.sa.pumpHist.get p) lines)) ∧
    (s.liu.sim ≠ none → (s.ch.get p).source = .auto → ∀ x, s.sa.simHist = some x →
      (s.startAllowed p = true ↔ test (x.station.map Prod.fst) (x.pump.get p) (lines + gated)))) ∧
  (∀ s : State,
    let handFree := s.lowMade = true ∧ s.sa.waiters ≠ []
    let allowed := fun p => s.lowMade = true ∧ s.startAllowed p = true
    (s.permitFree = false → s.offer = s) ∧
    (s.permitFree = true →
      (∀ p rest, s.lowMade = true → s.sa.waiters = p :: rest → s.offer = s.grant (.pump p)) ∧
      (¬handFree → s.rc.state = .waitPermit →
        (s.rc.forced = true → s.offer = s.grant .rake)) ∧
      (¬handFree → ¬(s.rc.state = .waitPermit ∧ s.rc.forced = true) →
        (∀ a p b, s.sa.queue = a ++ p :: b → (∀ q ∈ a, ¬allowed q) → allowed p → s.offer = s.grant (.pump p)) ∧
        ((∀ q ∈ s.sa.queue, ¬allowed q) →
          (s.rc.state = .waitPermit → s.sa.power ≠ .generator ∨ s.limitedLines < s.item 28 → s.offer = s.grant .rake) ∧
          (¬(s.rc.state = .waitPermit ∧ (s.sa.power ≠ .generator ∨ s.limitedLines < s.item 28)) → s.offer = s)))))

/-- R58, R59, R70, R73, R79, R86, R92: a grant to a pump: holder, lists, histories, start count, feedback deadline and
the first step of its start type, and nothing else. R79, R100, R101, R87: a grant to the rake, by Table 6-2. -/
def Obligations.PermitGranted : Prop :=
  (∀ (s : State) (p : Pump),
    let c := s.ch.get p
    let staged := c.source == .auto || c.source == .manual
    let gated := s.liu.sim.isSome && c.source == .auto
    let seen := gated || s.input (pumpInput p 2)
    let x := s.cg.pump.get p
    let y := if c.force.starDelta then x.request s.uptime (s.item 30) .first else x
    let station := fun (l : List (Nat × Pump)) => (if l.length < 8 then l else l.drop 1) ++ [(s.uptime, p)]
    let own := fun (l : List Nat) => (if l.length < 12 then l else l.drop 1) ++ [s.uptime]
    let sim := s.sa.simHist.getD ⟨[], PerPump.const []⟩
    s.grant (.pump p) =
      { s with
        ch := s.ch.set p
          { c with
            state := if c.force.starDelta then .star else .direct
            gated := gated
            fbSeen := seen
            wear := if gated then c.wear else { c.wear with starts := min 4294967295 (c.wear.starts + 1) }
            fbDeadline := if seen then none else some (s.uptime + s.item 29 * 1000)
            seqTimer :=
              if c.force.starDelta then
                (if y.firstOn && !x.firstOn then some (s.uptime + c.force.starTime * 1000) else none)
              else some (s.uptime + c.force.dolRunup * 1000) }
        cg := { s.cg with pump := s.cg.pump.set p y }
        sa := { s.sa with
          holder := .pump p
          queue := s.sa.queue.filter (· != p)
          waiters := s.sa.waiters.filter (· != p)
          hist := if staged && !gated then station s.sa.hist else s.sa.hist
          pumpHist := if staged && !gated then s.sa.pumpHist.set p (own (s.sa.pumpHist.get p)) else s.sa.pumpHist
          simHist :=
            if gated then some ⟨station sim.station, sim.pump.set p (own (sim.pump.get p))⟩ else s.sa.simHist } }) ∧
  (∀ s : State,
    let t := s.grant .rake
    let x := s.cg.rake
    let freed := { s.sa with holder := .none, lastRelease := some s.uptime, staggerOn := true, rakeInrush := none }
    let locked := fun (c : LockCause) (n : Nat) =>
      t.rc =
        { s.rc with
          state := .locked, retry := 0, cause := c, travel := none, backoff := none, discharge := none
          firstPending := false } ∧
      t.sa = freed ∧ t.rakeUp = false ∧ t.rakeDown = false ∧ t.cg.rake.held = none ∧
      (s.pointsHeld → (t.point n).cond = true) ∧
      t = { s with rc := t.rc, cg := { s.cg with rake := t.cg.rake }, sa := t.sa, alarms := t.alarms, rl := t.rl }
    let moving := fun (st : RakeState) (k : Member) (limit : Nat) =>
      let y := x.request s.uptime (s.item 44) k
      let on := y.on k && !x.on k
      t = { s with
        rc := { s.rc with
          state := st, firstPending := !on, travel := if on then some (s.uptime + limit * 1000) else s.rc.travel }
        cg := { s.cg with rake := y }
        sa := { s.sa with
          holder := .rake, rakeInrush := if on then some (s.uptime + s.item 45 * 1000) else s.sa.rakeInrush } }
    (s.rakeOverload = true → locked .jam 37) ∧
    (s.rakeOverload = false → s.rc.purpose = .cycle →
      (s.rakeBottom = true → locked .travel 38) ∧ (s.rakeBottom = false → moving .lowering .second (s.item 38))) ∧
    (s.rakeOverload = false → s.rc.purpose = .home →
      (s.rakeTop = true →
        t = { s with
          rc :=
            if 0 < s.rc.owed then { s.rc with state := .waitPermit, purpose := .cycle, retry := 0, firstPending := false }
            else { s.rc with state := .parked, firstPending := false }
          sa := freed
          work := if 0 < s.rc.owed then { s.work with offer := true } else s.work }) ∧
      (s.rakeTop = false → moving .homing .first (s.item 39))))

/-- R122, R123, R125, R132, R134: a post to an enabled point, with the log below the LOG_FULL count: the record as the
table of R123 moves it, and one ALARM_CHANGE appended at each change of state. R122: a post to a disabled point. R132
to R136: an append by its class and by what the log holds: below the LOG_FULL count, bringing LOG_FULL, to a full log,
and after the last sequence number. -/
def Obligations.PostMovesPoint : Prop :=
  (∀ (s : State) (b : Body),
    let classA := match b with
      | .restart _ _ | .clockSet _ _ | .overflowOpen _ _ | .overflowClose _ _ _ _ _ _ _ => true
      | .alarmChange n _ _ => s.priority n == 1
      | .alarmAck _ _ | .summary _ _ _ _ _ _ _ _ | .mode _ | .settingsApplied _ _ _ => false
    let x := s.rl.nextSeq
    let r := LogRec.mk x classA s.clockTime (s.uptime / 1000) b
    let held := s.rl.log
    let after := if x = 4294967295 then 0 else x + 1
    let a := s.point 43
    let t := s.append b
    (x ≠ 0 → held.length < 479 ∨ (s.rl.full = true ∧ held.length < 512) →
      t = { s with rl := { s.rl with log := held ++ [r], nextSeq := after } }) ∧
    (x ≠ 0 → s.rl.full = true → held.length = 512 →
      (∀ old y new, held = old ++ y :: new → (∀ z ∈ old, z.classA = true) → y.classA = false →
        t = { s with rl := { s.rl with log := old ++ new ++ [r], nextSeq := after } }) ∧
      (∀ y new, held = y :: new → (∀ z ∈ held, z.classA = true) →
        t = { s with rl := { s.rl with log := new ++ [r], nextSeq := after } })) ∧
    (x ≠ 0 → x ≠ 4294967295 → s.rl.full = false → 479 ≤ held.length → held.length < 511 → s.pointsHeld →
      t.rl.full = true ∧ (t.point 43).cond = true ∧
      t.rl.log = held ++ r ::
        (if s.enabled 43 = true ∧ a.cond = false ∧ (a.state = .normal ∨ a.state = .clearedUnack) then
          [⟨x + 1, s.priority 43 == 1, s.clockTime, s.uptime / 1000, .alarmChange 43 .activeUnack (min 255 (a.count + 1))⟩]
        else []) ∧
      t = { s with alarms := t.alarms, rl := t.rl }) ∧
    (x = 0 → s.rl.full = false →
      t = { s with rl := { s.rl with log := [{ r with seq := 1 }], nextSeq := 2, cursor := 1 } }) ∧
    (x = 0 → s.rl.full = true → s.pointsHeld →
      t.rl.full = false ∧ (t.point 43).cond = false ∧ t.rl.cursor = 1 ∧
      t.rl.log = { r with seq := 1 } ::
        (if s.enabled 43 = true ∧ a.cond = true ∧ (a.state = .activeUnack ∨ a.state = .activeAck) then
          [⟨2, s.priority 43 == 1, s.clockTime, s.uptime / 1000,
            .alarmChange 43 (if a.state = .activeUnack then .clearedUnack else .normal) a.count⟩]
        else []) ∧
      t = { s with alarms := t.alarms, rl := t.rl })) ∧
  (∀ (s : State) (n : Nat) (c : Bool), 1 ≤ n → n ≤ 46 → s.pointsHeld → s.enabled n = false →
    s.post n c =
      { s with alarms := { s.alarms with points := s.alarms.points.set (n - 1) { s.point n with cond := c } } }) ∧
  (∀ (s : State) (n : Nat) (c : Bool), 1 ≤ n → n ≤ 46 → s.pointsHeld → s.enabled n = true →
    s.rl.full = false → s.rl.log.length < 479 →
    let a := s.point n
    let t := s.post n c
    let log := if s.rl.nextSeq = 0 then [] else s.rl.log
    let seq := if s.rl.nextSeq = 0 then 1 else s.rl.nextSeq
    let moved := fun st =>
      (t.point n).state = st ∧ (t.point n).cond = c ∧ (t.point n).lastTime = s.clockTime ∧
      (t.point n).unseen = ⟨true, true⟩ ∧
      t.rl.log = log ++
        [⟨seq, s.priority n == 1, s.clockTime, s.uptime / 1000, .alarmChange n st (t.point n).count⟩] ∧
      t.rl.nextSeq = (if seq = 4294967295 then 0 else seq + 1)
    (a.cond = c → t = s) ∧
    (∀ k, 1 ≤ k → k ≤ 46 → k ≠ n → t.point k = s.point k) ∧
    t = { s with alarms := t.alarms, rl := t.rl } ∧
    (a.cond ≠ c → c = true →
      (a.state = .normal → moved .activeUnack ∧ (t.point n).count = min 255 (a.count + 1) ∧ (t.point n).firstTime = s.clockTime) ∧
      (a.state = .clearedUnack → moved .activeUnack ∧ (t.point n).count = min 255 (a.count + 1) ∧ (t.point n).firstTime = a.firstTime) ∧
      (a.state = .activeUnack ∨ a.state = .activeAck → t.point n = { a with cond := true } ∧ t.rl = s.rl)) ∧
    (a.cond ≠ c → c = false →
      (a.state = .activeUnack → moved .clearedUnack ∧ (t.point n).count = a.count) ∧
      (a.state = .activeAck → moved .normal ∧ (t.point n).count = a.count) ∧
      (a.state = .normal ∨ a.state = .clearedUnack → t.point n = { a with cond := false } ∧ t.rl = s.rl)))

/-- R19: in a table of rising arguments and values that never fall, a reading in a segment is the formula's, the
reading at the last point is its value, a reading lies between the two points of its segment, and a reading never falls
as the argument rises. -/
def Obligations.InterpolationRule : Prop :=
  ∀ tab : List (Nat × Nat), tab.Pairwise (fun a b => a.1 < b.1 ∧ a.2 ≤ b.2) →
    (∀ pre a b post x, tab = pre ++ a :: b :: post → a.1 ≤ x → x < b.1 →
      interp tab x = a.2 + (x - a.1) * (b.2 - a.2) / (b.1 - a.1) ∧ a.2 ≤ interp tab x ∧ interp tab x ≤ b.2) ∧
    (∀ pre a, tab = pre ++ [a] → interp tab a.1 = a.2) ∧
    (∀ a rest x y, tab = a :: rest → a.1 ≤ x → x ≤ y → interp tab x ≤ interp tab y)

/-- R49: a sort holds every present pump exactly once and no absent pump, in the order of leak, score and pump number.
-/
def Obligations.RosterSorted : Prop :=
  ∀ s : State,
    s.sortedRoster.Nodup ∧ (∀ p, p ∈ s.sortedRoster ↔ s.present p = true) ∧
    s.sortedRoster.Pairwise (fun p q =>
      let leak := fun r => (s.point (pumpPoint r 5)).state ≠ .normal
      (¬leak p ∧ leak q) ∨ ((leak p ↔ leak q) ∧ (s.score p < s.score q ∨ (s.score p = s.score q ∧ p.num < q.num))))

/-- R57, R60, R61: a START, a STOP and a STOP_NOW taken by a channel under AUTO or MANUAL, by the channel's state. R46,
R47: the request that the Staging Unit posts to one pump, which the channel takes (R57), by its source, the target set,
the handover's outgoing pumps and its entry. The model's choices in this: the rest of a channel that goes on to IDLE
takes min_rest as it stood before the pending set that the entry puts in force (log 50), the gated mark is cleared
there (log 18), a MANUAL pump is brought into line at every pass (log 26), and the stagger's mark is log 3's. -/
def Obligations.RequestsTaken : Prop :=
  let runs := fun (c : Chan) => c.state = .direct ∨ c.state = .star ∨ c.state = .changeover ∨ c.state = .running
  let still := fun (c : Chan) => c.state = .idle ∨ c.state = .unavailable ∨ c.state = .stopping ∨ c.state = .lockedOut
  -- the channel `p`, which ran, has dropped its outputs
  let stopped := fun (s t : State) (p : Pump) =>
    let c := s.ch.get p
    let d := t.ch.get p
    (c.gated = false → s.input (pumpInput p 2) = true →
      d =
        { c with
          state := .stopping, standing := false, deferred := false, seqTimer := none
          rest := some (s.uptime + c.force.minRest * 1000)
          fbDeadline := if s.sa.power = .dead then none else some (s.uptime + s.item 29 * 1000) }) ∧
    (c.gated = true ∨ s.input (pumpInput p 2) = false →
      d.state = .idle ∧ d.standing = false ∧ d.deferred = false ∧ d.seqTimer = none ∧ d.fbDeadline = none ∧
      d.gated = false ∧ d.source = c.source ∧ d.force = c.pendingSet.getD c.force ∧ d.pendingSet = none ∧
      (c.gated = false → d.rest =
        if c.force.minRest = 0 then none else some (s.uptime + c.force.minRest * 1000))) ∧
    (t.cg.pump.get p).firstOn = false ∧ (t.cg.pump.get p).secondOn = false ∧ (t.cg.pump.get p).held = none ∧
    (∀ q, q ≠ p → t.ch.get q = s.ch.get q ∧ t.cg.pump.get q = s.cg.pump.get q) ∧
    t.sa =
      (if s.sa.holder = .pump p then
        { s.sa with holder := .none, lastRelease := some s.uptime, staggerOn := true, rakeInrush := none }
      else s.sa) ∧
    t = { s with ch := t.ch, cg := { s.cg with pump := t.cg.pump }, sa := t.sa, work := { s.work with offer := true } }
  -- the channel `p`, which was QUEUED, has left the queue
  let left := fun (s : State) (p : Pump) =>
    let c := s.ch.get p
    { s with
      ch := s.ch.set p
        { c with
          state := .idle, standing := false, deferred := false, seqTimer := none, fbDeadline := none, gated := false
          rest := (match c.rest with | some r => if s.uptime < r then some r else none | none => none)
          force := c.pendingSet.getD c.force, pendingSet := none }
      sa := { s.sa with queue := s.sa.queue.filter (· != p), waiters := s.sa.waiters.filter (· != p) } }
  (∀ (s : State) (p : Pump), (s.ch.get p).staged = true →
    let c := s.ch.get p
    let asked := { c with standing := true, deferred := false }
    let joins := c.state = .idle ∧ c.rest = none ∧ s.sa.power ≠ .dead
    (s.lowMade = true → joins → s.takeStart p =
      { s with
        ch := s.ch.set p { asked with state := .queued }
        sa := { s.sa with queue := s.sa.queue ++ [p] }
        work := { s.work with offer := true } }) ∧
    (s.lowMade = true → ¬joins → s.takeStart p = { s with ch := s.ch.set p asked }) ∧
    (s.lowMade = false → s.takeStart p = { s with su := { s.su with posted := s.su.posted.set p .none } })) ∧
  (∀ (s : State) (p : Pump), (s.ch.get p).staged = true →
    let c := s.ch.get p
    let t := s.takeStop p
    let ran := c.runningSince + c.force.minRun * 1000 ≤ s.uptime
    (c.state = .queued → t = left s p) ∧
    (c.state = .direct ∨ c.state = .star ∨ c.state = .changeover ∨ (c.state = .running ∧ ¬ran) →
      t = { s with ch := s.ch.set p { c with standing := false, deferred := true } }) ∧
    (c.state = .running → ran → stopped s t p) ∧
    (still c → t = { s with ch := s.ch.set p { c with standing := false } })) ∧
  (∀ (s : State) (p : Pump), (s.ch.get p).staged = true →
    let c := s.ch.get p
    let t := s.takeStopNow p
    (c.state = .queued → t = left s p) ∧
    (runs c → stopped s t p) ∧
    (still c → t = { s with ch := s.ch.set p { c with standing := false, deferred := false } })) ∧
  (∀ (s : State) (p : Pump),
    let c := s.ch.get p
    let now := s.su.posted.get p
    let noted := fun (r : Req) => { s with su := { s.su with posted := s.su.posted.set p r } }
    let out := ∃ h, s.su.handover = some h ∧ p ∈ h.outgoing
    (c.source = .auto →
      (p ∈ s.su.target → now ≠ .start → s.postOne p = (noted .start).takeStart p) ∧
      (p ∉ s.su.target → now = .start → ¬out → s.postOne p = (noted .stop).takeStop p) ∧
      ((p ∈ s.su.target ∧ now = .start) ∨ (p ∉ s.su.target ∧ (now ≠ .start ∨ out)) → s.postOne p = s)) ∧
    (∀ e, c.source = .manual → s.su.entry.get p = some e →
      let may := s.lowMade = true ∧ c.state ≠ .lockedOut ∧ ¬(c.state = .idle ∧ c.rest ≠ none)
      (e.act = .run → now ≠ .start → may → s.postOne p = (noted .start).takeStart p) ∧
      (e.act = .run → now = .start ∨ ¬may → s.postOne p = s) ∧
      (e.act = .stop → now ≠ .stopNow → s.postOne p = (noted .stopNow).takeStopNow p) ∧
      (e.act = .stop → now = .stopNow → s.postOne p = s)) ∧
    (c.source = .hand ∨ c.source = .off → s.postOne p = s))

/-! ### Reset and the backup domain -/

/-- R171 with the reset rules of the blocks: what a reset leaves, warm and cold; the records it appends and the points
it posts (R120, R131, R135, R143, R144); the clock, which has gone on advancing while the part was held in reset or
unpowered (R141); and a loss of the backup domain's supply, which makes the next reset cold. `m` is the state before
the offer that a restart hold of no length brings at once (R91): the offer grants as `GrantOrder` and `PermitGranted`
say. The model's choices in this: the time away and the part of a second a kept clock has run (logs 23 and 30), the
order of the posts (log 12), the sampling of the debounced inputs at reset for staging's `d` (log 16), and the values
of `runningSince`, `fbSeen`, the rake's purpose and `firstPending`, for which the spec gives none (log 31). -/
def Obligations.ResetStarts : Prop :=
  (∀ (s : State) (k : ResetCause) (away : Nat), ∃ m t : State, exec (.reset ⟨k, away⟩) s = .next t ∧
    t = { (if m.work.offer then m.offer else m) with work := ⟨false, false⟩ } ∧
    t.uptime = 0 ∧ t.resetCause = k ∧ t.resetKind = (if s.ss.marker then .warm else .cold) ∧
    t.ss =
      { active := if s.ss.image.valid then s.ss.image.items else factoryDefaults
        holder := none, entries := [], dropped := ⟨false, false⟩, store := .idle, snapshotDue := false
        defaults := !s.ss.image.valid, fault := !s.ss.image.valid, image := s.ss.image, marker := true
        nextSnapshot := 14400000 } ∧
    (∀ c, (t.liu.chan.get c).state = .init ∧ (t.liu.chan.get c).hist = [] ∧ (t.liu.chan.get c).level = none ∧
      (t.liu.chan.get c).goodRun = 0 ∧ (t.liu.chan.get c).faultRun = 0 ∧ (t.liu.chan.get c).raw = 0#12) ∧
    t.liu.raw = s.liu.raw ∧ t.liu.deb = s.liu.raw ∧ t.liu.flags = ⟨0#40, 0#40⟩ ∧ t.liu.sim = none ∧ t.liu.diff = none ∧
    t.be.estimate = none ∧ t.be.level = none ∧ t.be.vStart = none ∧ t.be.valid = false ∧ t.be.ticks = 0 ∧
    t.su.flags = List.replicate 6 false ∧ t.su.dLevel = 0 ∧ t.su.fallback = true ∧ t.su.level = none ∧
    (∀ p, t.su.entry.get p = none) ∧ t.su.handover = none ∧ t.su.target = [] ∧
    t.om.event = none ∧ t.om.nextNum = (if s.ss.marker then s.om.nextNum else 1) ∧
    t.rc.owed = 0 ∧ t.rc.armed = true ∧ t.rc.forced = false ∧ t.rc.retry = 0 ∧
    (s.ss.marker = false → t.rl.clock = 0 ∧ t.rl.clockValid = false ∧ t.rl.nextAdvance = none) ∧
    (s.ss.marker = true → s.rl.clockValid = false →
      t.rl.clock = s.rl.clock ∧ t.rl.clockValid = false ∧ t.rl.nextAdvance = none) ∧
    (∀ e n, s.ss.marker = true → s.rl.clockValid = true → s.rl.nextAdvance = some e →
      (∀ i, i < n ↔ e + 1000 * i < s.uptime + away) →
      (s.rl.clock + n ≤ 4294967295 →
        t.rl.clock = s.rl.clock + n ∧ t.rl.clockValid = true ∧
        t.rl.nextAdvance = some (e + 1000 * n - (s.uptime + away))) ∧
      (4294967295 < s.rl.clock + n →
        t.rl.clock = 4294967295 ∧ t.rl.clockValid = false ∧ t.rl.nextAdvance = none)) ∧
    (∀ p, (t.ports.get p).buffer = .empty ∧ (t.ports.get p).link = .await ∧ (t.ports.get p).lastRefusal = none ∧
      (t.ports.get p).refusals = 0 ∧ (t.ports.get p).firstReply = true ∧ (t.ports.get p).afterSilence = false ∧
      (t.ports.get p).lastReq = none ∧
      (t.ports.get p).linkTimer = some ((match p with | .panel => t.item 52 | .town => t.item 53) * 1000)) ∧
    t.ports.panel.threshold = 3 ∧ t.ports.town.threshold = 1 ∧
    let on := fun k => s.liu.raw.getLsbD k
    let power : Power := if on 34 then .mains else if on 35 then .generator else .dead
    let live := power ≠ .dead
    let source := fun p : Pump =>
      if t.item (pumpItem p 0) ≠ 0 then Source.off
      else match on (pumpInput p 0), on (pumpInput p 1) with
        | true, false => .hand
        | false, true => .auto
        | _, _ => .off
    let apart : Pair := { firstOn := false, secondOn := false, firstRel := none, secondRel := none, held := none }
    let limit := match power with
      | .mains => t.item 27
      | .generator => min (t.item 27) (t.item 28)
      | .dead => 0
    let latch := if !on 36 then 0 else if on 38 then limit else if on 37 then 1 else 0
    (∀ p, m.ch.get p =
      { state := if source p = .off then .unavailable else if source p = .hand ∧ live then .queued else .idle
        source := source p
        standing := false, deferred := false, runningSince := 0, seqTimer := none, fbDeadline := none
        fbSeen := false, rest := none, cause := .none, gated := false
        force :=
          { starDelta := t.item (pumpItem p 1) == 1, ratedFlow := t.item (pumpItem p 2)
            minRun := t.item (pumpItem p 3), minRest := t.item (pumpItem p 4)
            startsPerHour := t.item (pumpItem p 5), dolRunup := t.item (pumpItem p 6)
            starTime := t.item (pumpItem p 7) }
        pendingSet := none
        wear :=
          if s.ss.marker then (s.ch.get p).wear
          else if s.ss.image.valid then s.ss.image.wear.get p
          else ⟨0, 0⟩ }) ∧
    m.cg = { pump := PerPump.const apart, rake := apart } ∧
    m.sa =
      { holder := .none, lastRelease := none, staggerOn := false, rakeInrush := none, queue := []
        waiters := if live then Pump.all.filter (fun p => source p == .hand) else []
        hist := [], pumpHist := PerPump.const [], simHist := none, windowMark := 0
        power := power, limit := limit
        hold := if live ∧ t.item 34 ≠ 0 then some (t.item 34 * 1000) else none } ∧
    m.rc =
      { state := if !on 30 then .off else if on 31 then .parked else .waitPermit
        purpose := .home, owed := 0, armed := true, forced := false, retry := 0, cause := .none, travel := none
        backoff := none, discharge := none
        interval := if t.item 37 = 0 then none else some (t.item 37 * 60000)
        blindTimer := none, blinded := false, firstPending := false } ∧
    (∀ p, p ∈ t.su.roster ↔ t.present p = true) ∧ t.su.lf = latch ∧ t.su.d = (if on 36 then min latch limit else 0) ∧
    t.om =
      { state := if on 39 then .opening else .quiet
        openTimer := if on 39 then some (t.item 48 * 1000) else none
        closeTimer := none
        debounce := if on 39 then some (0, t.clockTime) else none
        event := none, nextNum := if s.ss.marker then s.om.nextNum else 1, nextUpdate := 1000 } ∧
    m.work = { cycleEnd := false, offer := live && (t.item 34 == 0 || Pump.all.any fun p => source p == .hand) } ∧
    -- the log
    let held := if s.ss.marker then s.rl.log else []
    let seq := if s.ss.marker then s.rl.nextSeq else 1
    let time := if m.rl.clockValid then some m.rl.clock else none
    let condition := fun n =>
      if n = 32 then on 38
      else if n = 40 then power != .mains
      else if n = 43 then m.rl.full
      else if n = 44 then !s.ss.image.valid
      else if n = 45 then !m.rl.clockValid
      else Pump.all.any fun p => n == pumpPoint p 5 && t.item (pumpItem p 0) == 0 && on (pumpInput p 4)
    let raised := fun n => condition n && t.item (183 + n) == 0
    let first :=
      (match s.ss.marker, s.om.event with
        | true, some e =>
          [(Body.overflowClose e.num e.lastTime e.elapsed e.spill e.peak e.unmeasured .interrupted, true)]
        | _, _ => []) ++ [(Body.restart t.resetKind k, true)]
    let changes := ([45, 5, 10, 15, 20, 25, 30, 32, 40, 44].filter raised).map fun n =>
      (Body.alarmChange n .activeUnack 1, t.item (137 + n) == 1)
    let records := fun (l : List (Body × Bool)) => l.zipIdx.map fun x => LogRec.mk (seq + x.2) x.1.2 time 0 x.1.1
    (seq ≠ 0 → seq < 4294967000 →
      m.rl.cursor = (if s.ss.marker then (match s.rl.log with | r :: _ => r.seq | [] => s.rl.nextSeq) else 1) ∧
      (held.length < 460 →
        m.rl.log = held ++ records (first ++ changes) ∧ m.rl.nextSeq = seq + (first ++ changes).length ∧
        m.rl.full = false) ∧
      (held.length ≤ 512 → m.rl.full = decide (480 ≤ m.rl.log.length) ∧ ∀ r ∈ records first, r ∈ m.rl.log) ∧
      -- the points
      m.pointsHeld ∧ m.alarms.beacon = m.beaconOf ∧ (∀ p, m.alarms.line.get p = m.lineOf p) ∧
      (held.length ≤ 512 → ∀ n, 1 ≤ n → n ≤ 46 →
        m.point n =
          if raised n then
            { state := .activeUnack, cond := true, firstTime := time, lastTime := time, count := 1
              unseen := ⟨true, true⟩ }
          else
            { state := .normal, cond := condition n, firstTime := none, lastTime := none, count := 0
              unseen := ⟨false, false⟩ }))) ∧
  (∀ s : State, ∃ t, exec .backupDomainSupplyLoss s = .next t ∧ t = { s with ss := { s.ss with marker := false } } ∧
    ∀ k, ∃ u, exec (.reset k) t = .next u ∧ u.resetKind = .cold ∧ u.rl.clockValid = false ∧ u.om.nextNum = 1)

/-! ### Level channels and inputs -/

/-- R1 to R5: one sample at a level channel, state by state. SAMPLE_EVENT (R1, R6): the channel takes the sample, the
other channel and every input stay as they were, and a level that WELL publishes outside simulation reaches the balance
and staging. A sample that is not GOOD spoils the interval (R22, R6), a change of state posts WELL_SENSOR or
INLET_SENSOR (R7), and WELL's entry to SUSPECT or FAILED clears the fresh mark and FAILED brings fallback (R39), which
a level published outside simulation ends where no disagreement stands (R41); the summary's highest level and the peak
of an open event follow it (R29, R117), and a real level at or above start_1 ends a session (R16). -/
def Obligations.SamplesTaken : Prop :=
  (∀ (c : LevelChan) (raw : BitVec 12),
    let r := c.sample raw
    let n := raw.toNat
    let l := if n ≤ c.cal.zero then 0 else min 20000 ((n - c.cal.zero) * c.cal.spanMm / c.cal.span)
    let h := (if c.hist.length < 8 then c.hist else c.hist.drop 1) ++ [l]
    r.1.raw = raw ∧ r.1.cal = c.cal ∧
    (580 ≤ n → n ≤ 3890 →
      r.1.hist = h ∧
      match c.state with
      | .good => r.2 = true ∧ r.1.state = .good ∧ r.1.level = some (h.sum / h.length)
      | .suspect => r.2 = true ∧ r.1.state = .good ∧ r.1.level = some (h.sum / h.length) ∧ r.1.faultRun = 0
      | .init =>
        r.1.goodRun = c.goodRun + 1 ∧ r.1.faultRun = 0 ∧
        (8 ≤ c.goodRun + 1 → r.2 = true ∧ r.1.state = .good ∧ r.1.level = some (h.sum / h.length)) ∧
        (c.goodRun + 1 < 8 → r.2 = false ∧ r.1.state = .init ∧ r.1.level = c.level)
      | .failed =>
        r.1.goodRun = c.goodRun + 1 ∧
        (8 ≤ c.goodRun + 1 → r.2 = true ∧ r.1.state = .good ∧ r.1.level = some (h.sum / h.length)) ∧
        (c.goodRun + 1 < 8 → r.2 = false ∧ r.1.state = .failed ∧ r.1.level = c.level)) ∧
    (n < 580 ∨ 3890 < n →
      r.2 = false ∧ r.1.level = c.level ∧
      match c.state with
      | .good => r.1.state = .suspect ∧ r.1.faultRun = 1 ∧ r.1.hist = c.hist
      | .suspect =>
        (8 ≤ c.faultRun + 1 → r.1.state = .failed ∧ r.1.hist = [] ∧ r.1.goodRun = 0 ∧ r.1.faultRun = 0) ∧
        (c.faultRun + 1 < 8 → r.1.state = .suspect ∧ r.1.faultRun = c.faultRun + 1 ∧ r.1.hist = c.hist)
      | .init =>
        r.1.hist = [] ∧ r.1.goodRun = 0 ∧
        (8 ≤ c.faultRun + 1 → r.1.state = .failed ∧ r.1.faultRun = 0) ∧
        (c.faultRun + 1 < 8 → r.1.state = .init ∧ r.1.faultRun = c.faultRun + 1)
      | .failed => r.1.state = .failed ∧ r.1.hist = [] ∧ r.1.goodRun = 0)) ∧
  (∀ (s : State) (c : Loop) (raw : BitVec 12), s.liu.nextSample.get c ≤ s.uptime →
    let r := (s.liu.chan.get c).sample raw
    let level := if c = .well ∧ r.2 = true then r.1.level else none
    let top := fun (x : Option Nat) => match level, x with
      | some l, some y => some (max y l)
      | some l, none => some l
      | none, y => y
    ∃ t, exec (.sampleEvent c raw) s = .next t ∧
      t.liu.chan = s.liu.chan.set c r.1 ∧
      t.liu.nextSample = s.liu.nextSample.set c (s.liu.nextSample.get c + 250) ∧
      t.liu.raw = s.liu.raw ∧ t.liu.deb = s.liu.deb ∧ t.liu.rawSince = s.liu.rawSince ∧ t.liu.flags = s.liu.flags ∧
      t = { s.withStation t with liu := t.liu, be := t.be, om := t.om } ∧
      (c = .inlet → t.be = s.be ∧ t.om = s.om) ∧
      (c = .well → r.2 = true → s.liu.sim = none → t.be.level = r.1.level ∧ t.su.level = r.1.level) ∧
      (c = .well → t.be.valid =
        (s.be.valid && decide (r.1.state = .good) && !(s.liu.sim.isSome && t.liu.sim.isNone))) ∧
      (s.pointsHeld → ∀ d : Loop,
        let n := match d with
          | .well => 34
          | .inlet => 35
        (t.point n).cond =
          if d = c ∧ r.1.state ≠ (s.liu.chan.get c).state then decide (r.1.state = .failed) else (s.point n).cond) ∧
      (c = .inlet → t.su.fresh = s.su.fresh ∧ t.su.level = s.su.level ∧ t.su.fallback = s.su.fallback) ∧
      (c = .well → r.1.state ≠ s.well.state → r.1.state = .suspect →
        t.su.fresh = false ∧ t.su.level = s.su.level ∧ t.su.fallback = s.su.fallback) ∧
      (c = .well → r.1.state ≠ s.well.state → r.1.state = .failed →
        t.su.fresh = false ∧ t.su.level = s.su.level ∧ t.su.fallback = true ∧
        (s.su.fallback = false ∨ s.su.quietFallback = true → s.rl.nextSeq ≠ 0 → s.rl.nextSeq < 4294967000 →
          s.rl.log.length < 470 → ∃ x ∈ t.rl.log, s.rl.nextSeq ≤ x.seq ∧ x.body = .mode .fallbackEnterWell)) ∧
      (c = .well → r.2 = true → t.liu.sim = none →
        t.su.fresh = true ∧ t.su.fallback = (s.su.fallback && s.liu.levelDisagree)) ∧
      t.be.sum.highest = (if s.liu.sim = none then top s.be.sum.highest else s.be.sum.highest) ∧
      t.om.event = s.om.event.map (fun e => { e with peak := top e.peak }) ∧
      (level = none ∨ s.liu.sim = none ∨ (∃ l, level = some l ∧ l < s.item 11) → t.liu.sim = s.liu.sim) ∧
      (∀ l, level = some l → s.item 11 ≤ l →
        t.liu.sim = none ∧
        (s.liu.sim ≠ none → s.rl.nextSeq ≠ 0 → s.rl.nextSeq < 4294967000 → s.rl.log.length < 470 →
          ∃ x ∈ t.rl.log, s.rl.nextSeq ≤ x.seq ∧ x.body = .mode (.simExit .realLevel))))

/-- RAW_INPUT_CHANGE (R9): a raw input takes its value, and a change begins a new interval. INPUT_CHANGE (R9, R11): the
debounced input takes the raw value once that has been held for the interval, both ports' flags of that input are set,
and no other input or flag changes. Before that, nothing happens (log 2). -/
def Obligations.InputsDebounced : Prop :=
  (∀ (s : State) (k : Fin 40) (v : Bool), ∃ t, exec (.rawInputChange k v) s = .next t ∧
    t = { s with liu := { s.liu with raw := t.liu.raw, rawSince := t.liu.rawSince } } ∧
    t.liu.raw.getLsbD k = v ∧ (∀ j, j ≠ k.val → t.liu.raw.getLsbD j = s.liu.raw.getLsbD j) ∧
    t.liu.rawSince = if s.liu.raw.getLsbD k = v then s.liu.rawSince else s.liu.rawSince.set k s.uptime) ∧
  (∀ (s : State) (k : Fin 40),
    let interval := if k.val < 36 then 100 else 2000
    (s.liu.raw.getLsbD k ≠ s.liu.deb.getLsbD k → s.liu.rawSince.getD k 0 + interval ≤ s.uptime →
      ∃ t, exec (.inputChange k) s = .next t ∧
        t.liu.deb.getLsbD k = s.liu.raw.getLsbD k ∧ (∀ j, j ≠ k.val → t.liu.deb.getLsbD j = s.liu.deb.getLsbD j) ∧
        (∀ p, (t.liu.flags.get p).getLsbD k = true) ∧
        (∀ p j, j ≠ k.val → (t.liu.flags.get p).getLsbD j = (s.liu.flags.get p).getLsbD j) ∧
        t.liu.raw = s.liu.raw ∧ t.liu.chan = s.liu.chan ∧
        t = { s.withStation t with liu := t.liu, be := t.be, om := t.om }) ∧
    (s.liu.raw.getLsbD k = s.liu.deb.getLsbD k ∨ s.uptime < s.liu.rawSince.getD k 0 + interval →
      exec (.inputChange k) s = .next s))

/-- What a level does. R34, R35, R37, R41, R55: a level received by staging: outside fallback each flag follows its two
levels and D_level counts the flags of the present pumps; in fallback the level is held, and the exit is taken where
both conditions of fallback are false, the flags between their levels following L_f; a fallback that a reset began with
and no record shows ends without a record. R12, R13, R7: what a sample does to the disagreement timer, the differential
and HIGH_LEVEL. DISAGREE_TIMER_END (R12, R39, R41): the condition turns, its point takes it, a true one brings
fallback, and the end of it lets a fallback go that has no other ground. R97, R99, R111: the rake as it is handed the
differential. -/
def Obligations.LevelsAct : Prop :=
  (∀ (s : State) (l : Nat),
      let t := s.suLevel l
      let present := (Pump.all.filter s.present).length
      let between := fun (inBand : Nat → Bool) (k : Nat) =>
        if s.item (11 + k) ≤ l then true else if l ≤ s.item (17 + k) then false else inBand k
      let held := { s.su with level := some l, fresh := true }
      (s.su.fallback = false →
        (∀ k, k < 6 → t.su.flags.getD k false = between (fun k => s.su.flags.getD k false) k) ∧
        t.su.flags.length = 6 ∧ t.su.dLevel = ((t.su.flags.take present).filter id).length ∧
        t = { s with su := { held with
          flags := t.su.flags, dLevel := t.su.dLevel, rise := if l ≤ s.item 17 then false else s.su.rise } }) ∧
      (s.su.fallback = true →
        (s.well.state = .init ∨ s.well.state = .failed ∨ s.liu.levelDisagree = true → t = { s with su := held }) ∧
        (s.well.state = .good ∨ s.well.state = .suspect → s.liu.levelDisagree = false →
          (∀ k, k < 6 → t.su.flags.getD k false = between (fun k => decide (k + 1 ≤ s.su.lf)) k) ∧
          t.su.dLevel = ((t.su.flags.take present).filter id).length ∧
          t.su = { held with fallback := false, quietFallback := false, flags := t.su.flags, dLevel := t.su.dLevel } ∧
          t = { s with su := t.su, alarms := t.alarms, rl := t.rl } ∧
          (s.su.quietFallback = true → t.rl = s.rl) ∧
          (s.su.quietFallback = false → s.rl.nextSeq ≠ 0 → s.rl.log.length < 479 →
            t.rl.log = s.rl.log ++ [⟨s.rl.nextSeq, false, s.clockTime, s.uptime / 1000, .mode .fallbackExit⟩])))) ∧
  (∀ (s : State) (c : Loop) (raw : BitVec 12), s.liu.nextSample.get c ≤ s.uptime →
    let r := (s.liu.chan.get c).sample raw
    let chan := s.liu.chan.set c r.1
    let changed := r.1.state ≠ (s.liu.chan.get c).state
    let apart := fun (made : Bool) (elevation l : Nat) =>
      if made then decide (l + 500 < elevation) else decide (elevation + 500 < l)
    let disagree := match chan.well.state, chan.well.level with
      | .good, some l =>
        apart s.lowMade (s.item 7) l || apart s.highMade (s.item 8) l || apart s.hhMade (s.item 9) l ||
          apart s.weirMade (s.item 46) l
      | _, _ => false
    ∃ t, exec (.sampleEvent c raw) s = .next t ∧
      t.liu.disTimer =
        (if c = .well ∧ (r.2 = true ∨ changed) then
          if disagree = s.liu.levelDisagree then none
          else match s.liu.disTimer with
            | some e => some e
            | none => some (s.uptime + 10000)
        else s.liu.disTimer) ∧
      t.liu.highLevel =
        (if c = .well ∧ (r.2 = true ∨ changed) then
          match chan.well.state, chan.well.level with
          | .good, some l => decide (s.item 10 ≤ l)
          | .suspect, _ => s.liu.highLevel
          | _, _ => false
        else s.liu.highLevel) ∧
      t.liu.diff =
        (if chan.well.state = .good ∧ chan.inlet.state = .good then
          if r.2 = true then
            match chan.well.level, chan.inlet.level with
            | some w, some i => some (i - w)
            | _, _ => none
          else s.liu.diff
        else none)) ∧
  (∀ (s : State) (e : Nat), s.liu.disTimer = some e → e ≤ s.uptime →
    ∃ t, exec .disagreeTimerEnd s = .next t ∧
      t.liu = { s.liu with disTimer := none, levelDisagree := !s.liu.levelDisagree } ∧
      (s.liu.levelDisagree = false → t.su.fallback = true) ∧
      (s.liu.levelDisagree = true →
        t.su.fallback =
          (s.su.fallback && !(s.su.level.isSome && (s.su.fresh || s.liu.sim.isSome) &&
            (s.well.state == .good || s.well.state == .suspect)))) ∧
      (s.pointsHeld → (t.point 36).cond = !s.liu.levelDisagree) ∧
      t = { s.withStation t with liu := t.liu }) ∧
  (∀ s : State, s.owedBound →
    let t := s.rakeDiff
    (∀ v, s.liu.diff = some v →
      let asks := s.item 35 ≤ v ∧ s.rc.armed = true
      let moves := asks ∧ s.rc.state = .parked ∧ s.rc.owed < 8
      t.rc =
        { s.rc with
          owed := if asks then min 8 (s.rc.owed + 1) else s.rc.owed
          armed := decide (v < s.item 35)
          forced := t.rc.owed == 8 || decide (s.item 36 ≤ v)
          state := if moves then .waitPermit else s.rc.state
          purpose := if moves then .cycle else s.rc.purpose
          retry := if moves then 0 else s.rc.retry
          blindTimer :=
            if v < s.item 43 then none
            else if s.rc.blindTimer = none ∧ s.rc.blinded = false then some (s.uptime + 60000)
            else s.rc.blindTimer
          blinded := if v < s.item 43 then false else s.rc.blinded } ∧
      (moves → t.work.offer = true) ∧
      (v < s.item 43 → s.pointsHeld → (t.point 39).cond = false) ∧
      (s.item 43 ≤ v → t.alarms = s.alarms ∧ t.rl = s.rl) ∧
      t = { s with rc := t.rc, alarms := t.alarms, rl := t.rl, work := t.work }) ∧
    (s.liu.diff = none →
      t = { s with
        rc := { s.rc with armed := true, blindTimer := none, forced := s.rc.owed == 8 }, work := t.work }))

/-- INPUT_CHANGE at the owners of each input (Table 1-1). `a` is the state in which the debounced input has changed and
its flags are set, `m` the state before the event ends. Trip (R66); run feedback (R62 to R64); selector contacts (R42,
R44, R69); leak probe (R7); the LOW float at the channels (R71, R83); LOW, HIGH and HIGHHIGH at the fallback latch
(R40), HIGH at a session (R16), HIGHHIGH at its point; WEIR at the overflow monitor (R114); the supply contacts (R88);
the rake's selector (R109), end switches (R102, R103, R106) and overload (R102 to R104, R106). A float also
re-evaluates the disagreement timer (R12). The model's choices in this: the fall of feedback completes a stop while
DEAD as well, where R72 gives it no supervision effect (log 48), and a rest takes min_rest as it stood before a pending
set that the same event puts in force (log 50); the gated mark is cleared where a lockout ends the run (log 18), and
the stagger's mark is log 3's. -/
def Obligations.InputChangesAct : Prop :=
  let asksLine := fun (c : Chan) => c.state = .direct ∨ c.state = .star ∨ c.state = .changeover ∨ c.state = .running
  let staged := fun (c : Chan) => c.source = .auto ∨ c.source = .manual
  let lockedOut := fun (a m : State) (p : Pump) (k : Cause) =>
    let c := a.ch.get p
    let d := m.ch.get p
    d.state = .lockedOut ∧ d.cause = k ∧ d.standing = false ∧ d.deferred = false ∧ d.gated = false ∧
      d.seqTimer = none ∧ d.fbDeadline = none ∧ d.source = c.source ∧
      d.rest = (if asksLine c ∧ c.gated = false then some (a.uptime + c.force.minRest * 1000) else c.rest) ∧
      p ∉ m.sa.queue ∧ p ∉ m.sa.waiters ∧ (a.sa.holder = .pump p → m.sa.holder = .none) ∧
      (a.pointsHeld → (∀ n, causePoint p k = some n → (m.point n).cond = true) ∧
        ∀ n, causePoint p c.cause = some n → c.cause ≠ k → (m.point n).cond = false)
  (∀ (s : State) (k : Fin 40) (p : Pump),
    s.liu.raw.getLsbD k ≠ s.liu.deb.getLsbD k →
    s.liu.rawSince.getD k 0 + (if k.val < 36 then 100 else 2000) ≤ s.uptime →
    let a := s.takeInput k
    let c := a.ch.get p
    let active := a.input k
    ∃ m, exec (.inputChange k) s = .next (s.finish m) ∧
      a = { s with liu := { s.liu with deb := a.liu.deb, flags := a.liu.flags } } ∧
      (∀ j, a.input j = if j = k then !s.input k else s.input j) ∧
      (k.val = pumpInput p 3 →
        (s.present p = true → active = true → c.cause ≠ .trip → lockedOut a m p .trip) ∧
        (s.present p = false ∨ active = false ∨ c.cause = .trip → m = a) ∧
        ∀ q, q ≠ p → m.ch.get q = a.ch.get q) ∧
      (k.val = pumpInput p 2 →
        (s.present p = true → c.gated = false → active = true → asksLine c →
          m = { a with ch := a.ch.set p { c with fbSeen := true, fbDeadline := none } }) ∧
        (s.present p = true → c.gated = false → active = false → c.state = .running → c.fbDeadline = none →
          lockedOut a m p .runLost) ∧
        (s.present p = true → c.gated = false → active = false → c.state = .stopping →
          (m.ch.get p).fbDeadline = none ∧ (m.ch.get p).source = c.source ∧
          (c.source = .off → (m.ch.get p).state = .unavailable) ∧
          (c.source = .hand → (m.ch.get p).state = (if a.sa.power = .dead then .idle else .queued)) ∧
          (staged c → (m.ch.get p).state = .idle ∨ (m.ch.get p).state = .queued)) ∧
        (s.present p = false ∨ c.gated = true ∨ (active = true ∧ ¬asksLine c) ∨
          (active = false ∧ c.state ≠ .stopping ∧ (c.state = .running → c.fbDeadline ≠ none)) → m = a) ∧
        ∀ q, q ≠ p → m.ch.get q = a.ch.get q) ∧
      (k.val = pumpInput p 0 ∨ k.val = pumpInput p 1 →
        let d := m.ch.get p
        let toPart := a.input (pumpInput p 1) = true ∧ a.input (pumpInput p 0) = false
        (s.present p = false → m = a) ∧
        (s.present p = true →
          m.su.entry = (if toPart then a.su.entry else a.su.entry.set p none) ∧
          d.source =
            (match a.input (pumpInput p 0), a.input (pumpInput p 1) with
              | true, false => .hand
              | false, true => if (a.su.entry.get p).isSome then .manual else .auto
              | _, _ => .off) ∧
          (d.source = c.source → m = { a with su := { a.su with entry := m.su.entry } }) ∧
          (d.source ≠ c.source → c.gated = false →
            (d.source = .off ∨ d.source = .hand → d.standing = false ∧ d.deferred = false) ∧
            (d.source = .off →
              (c.state = .idle ∨ c.state = .unavailable ∨ c.state = .queued → d.state = .unavailable) ∧
              (c.state = .queued → p ∉ m.sa.queue ∧ p ∉ m.sa.waiters) ∧
              (asksLine c →
                d.state = (if a.input (pumpInput p 2) = true then .stopping else .unavailable) ∧
                (a.sa.holder = .pump p → m.sa.holder = .none)) ∧
              (c.state = .stopping → d.state = .stopping) ∧
              (c.state = .lockedOut → a.input (pumpInput p 3) = true →
                d.state = .lockedOut ∧ d.cause = c.cause) ∧
              (c.state = .lockedOut → a.input (pumpInput p 3) = false →
                d.state = (if a.input (pumpInput p 2) = true then .stopping else .unavailable) ∧ d.cause = .none)) ∧
            (d.source = .hand →
              (c.state = .idle ∨ c.state = .unavailable ∨ c.state = .queued →
                d.state = (if a.sa.power = .dead then .idle else .queued) ∧ p ∉ m.sa.queue ∧
                (a.sa.power ≠ .dead → p ∈ m.sa.waiters)) ∧
              (asksLine c ∨ c.state = .stopping ∨ c.state = .lockedOut →
                m.ch = a.ch.set p { c with source := .hand, standing := false, deferred := false } ∧ m.sa = a.sa)) ∧
            (d.source = .auto ∨ d.source = .manual → c.source = .hand →
              (c.state = .queued → p ∉ m.sa.waiters ∧ (d.state = .idle ∨ d.state = .queued)) ∧
              (asksLine c →
                (a.input (pumpInput p 2) = true → d.state = .stopping) ∧
                (a.input (pumpInput p 2) = false → d.state = .idle ∨ d.state = .queued) ∧
                (a.sa.holder = .pump p → m.sa.holder = .none)) ∧
              (c.state = .stopping ∨ c.state = .lockedOut → d = { c with source := d.source } ∧ m.sa = a.sa)) ∧
            (d.source = .auto ∨ d.source = .manual → c.source ≠ .hand →
              (c.state = .unavailable ∨ c.state = .idle → d.state = .idle ∨ d.state = .queued) ∧
              (c.state ≠ .unavailable → c.state ≠ .idle → d = { c with source := d.source } ∧ m.sa = a.sa))) ∧
          (d.source ≠ c.source → c.gated = true → d.gated = false ∧ ¬asksLine d))) ∧
      (k.val = pumpInput p 4 →
        (s.pointsHeld → (m.point (pumpPoint p 5)).cond = (s.present p && active)) ∧
        m = { a with alarms := m.alarms, rl := m.rl }) ∧
      (k.val = 36 →
        m.su.lf = (if a.su.fallback = true ∧ active = false then 0 else a.su.lf) ∧
        (active = false →
          (staged c → (m.ch.get p).standing = false) ∧
          (asksLine c → ¬asksLine (m.ch.get p) ∧ (a.sa.holder = .pump p → m.sa.holder = .none)) ∧
          (c.state = .queued → staged c → (m.ch.get p).state = .idle ∧ p ∉ m.sa.queue) ∧
          (c.state = .queued → c.source = .hand → m.ch.get p = c) ∧
          (c.state = .idle ∨ c.state = .unavailable ∨ c.state = .stopping ∨ c.state = .lockedOut →
            m.ch.get p = { c with standing := (m.ch.get p).standing })) ∧
        (active = true →
          m.work.offer = true ∧
          let joins := c.state = .idle ∧ a.sa.power ≠ .dead ∧
            (c.source = .hand ∨ (staged c ∧ c.standing = true ∧ c.rest = none))
          (joins → m.ch.get p = { c with state := .queued } ∧
            (if c.source = .hand then p ∈ m.sa.waiters else p ∈ m.sa.queue)) ∧
          (¬joins → m.ch.get p = c))) ∧
      (k.val = 37 →
        m.su.lf = (if a.su.fallback = true ∧ active = true then max a.su.lf 1 else a.su.lf) ∧
        (active = true → m.liu.sim = none) ∧
        (active = true → s.liu.sim ≠ none → s.rl.nextSeq ≠ 0 → s.rl.nextSeq < 4294967000 → s.rl.log.length < 470 →
          ∃ x ∈ m.rl.log, s.rl.nextSeq ≤ x.seq ∧ x.body = .mode (.simExit .highFloat)) ∧
        (active = false ∨ s.liu.sim = none →
          m = { a with su := { a.su with lf := m.su.lf }, liu := { a.liu with disTimer := m.liu.disTimer } })) ∧
      (k.val = 38 →
        m.su.lf =
          (if a.su.fallback = true then (if active = true then a.sa.limit else min a.su.lf 1) else a.su.lf) ∧
        (s.pointsHeld → (m.point 32).cond = active) ∧
        m = { a with
          su := { a.su with lf := m.su.lf }, liu := { a.liu with disTimer := m.liu.disTimer }, alarms := m.alarms
          rl := m.rl }) ∧
      (k.val = 39 → m = { a.omEvaluate with liu := { a.liu with disTimer := m.liu.disTimer } }) ∧
      (k.val = 34 ∨ k.val = 35 → m = a.changePower) ∧
      (k.val < 36 → m.liu = a.liu) ∧
      (36 ≤ k.val →
        let apart := fun (made : Bool) (elevation l : Nat) =>
          if made then decide (l + 500 < elevation) else decide (elevation + 500 < l)
        let disagree := match s.well.state, s.well.level with
          | .good, some l =>
            apart a.lowMade (s.item 7) l || apart a.highMade (s.item 8) l || apart a.hhMade (s.item 9) l ||
              apart a.weirMade (s.item 46) l
          | _, _ => false
        m.liu =
          { a.liu with
            sim := m.liu.sim
            disTimer :=
              if disagree = s.liu.levelDisagree then none
              else match s.liu.disTimer with
                | some e => some e
                | none => some (s.uptime + 10000) } ∧
        (k.val ≠ 37 ∨ active = false → m.liu.sim = s.liu.sim))) ∧
  (∀ (s : State) (k : Fin 40), 30 ≤ k.val → k.val ≤ 33 →
    s.liu.raw.getLsbD k ≠ s.liu.deb.getLsbD k → s.liu.rawSince.getD k 0 + 100 ≤ s.uptime →
    let a := s.takeInput k
    let active := a.input k
    let x := a.cg.rake
    let freed := if a.sa.holder = .rake then
        { a.sa with holder := .none, lastRelease := some s.uptime, staggerOn := true, rakeInrush := none }
      else a.sa
    ∃ m, exec (.inputChange k) s = .next (s.finish m) ∧
      let rest := { a.rc with retry := 0, travel := none, backoff := none, discharge := none, firstPending := false }
      let parked := fun (r : Rc) =>
        if 0 < r.owed then { r with state := .waitPermit, purpose := .cycle, retry := 0 } else { r with state := .parked }
      let jammed :=
        m.rc = { rest with state := .locked, cause := .jam } ∧ m.sa = freed ∧
        m.rakeUp = false ∧ m.rakeDown = false ∧ m.cg.rake.held = none ∧ (s.pointsHeld → (m.point 37).cond = true) ∧
        m = { a with rc := m.rc, cg := { a.cg with rake := m.cg.rake }, sa := m.sa, alarms := m.alarms, rl := m.rl }
      let turned := fun (st : RakeState) (k : Member) =>
        let x1 := x.release s.uptime k.other
        let y := x1.request s.uptime (s.item 44) k
        let on := y.on k && !x1.on k
        let first := on && a.rc.firstPending && k == (match a.rc.purpose with | .cycle => .second | .home => .first)
        m = { a with
          rc := { a.rc with
            state := st
            travel := if on && st == .raising then some (s.uptime + s.item 39 * 1000) else none
            backoff := if on && st == .jamBackoff then some (s.uptime + s.item 40 * 1000) else a.rc.backoff
            firstPending := a.rc.firstPending && !first }
          cg := { a.cg with rake := y }
          sa :=
            if first = true ∧ a.sa.holder = .rake then
              { a.sa with rakeInrush := some (s.uptime + s.item 45 * 1000) }
            else a.sa }
      (k.val = 30 → active = false →
        (a.rc.state = .locked → m = a) ∧
        (a.rc.state ≠ .locked →
          m.rc = { rest with state := .off } ∧ m.sa = freed ∧ m.rakeUp = false ∧ m.rakeDown = false ∧
          m.cg.rake.held = none ∧ m = { a with rc := m.rc, cg := { a.cg with rake := m.cg.rake }, sa := m.sa })) ∧
      (k.val = 30 → active = true →
        (a.rc.state ≠ .off → m = a) ∧
        (a.rc.state = .off →
          m.rc =
            (if s.rakeTop = true then parked a.rc else { a.rc with state := .waitPermit, purpose := .home, retry := 0 }) ∧
          m.work.offer = (a.work.offer || m.rc.state == .waitPermit) ∧
          m = { a with rc := m.rc, work := m.work })) ∧
      (k.val = 31 → active = true →
        (a.rc.state = .raising →
          m.rakeUp = false ∧ m.sa = freed ∧
          (s.item 41 ≠ 0 →
            m.rc =
              { a.rc with
                state := .discharge, travel := none, discharge := some (s.uptime + s.item 41 * 1000)
                firstPending := false } ∧
            m = { a with rc := m.rc, cg := { a.cg with rake := m.cg.rake }, sa := m.sa }) ∧
          (s.item 41 = 0 →
            let left := match s.liu.diff with
              | some v => if v < s.item 35 then 0 else s.rc.owed
              | none => s.rc.owed - 1
            m.rc.owed = left ∧ m.rc.retry = 0 ∧ m.rc.travel = none ∧ m.rc.discharge = none ∧
            m.rc.interval = (if s.item 37 = 0 then none else some (s.uptime + s.item 37 * 60000)) ∧
            m.rc.state = (if left = 0 then .parked else .waitPermit) ∧
            m = { a with rc := m.rc, cg := { a.cg with rake := m.cg.rake }, sa := m.sa, work := m.work })) ∧
        (a.rc.state = .homing →
          m.rakeUp = false ∧ m.sa = freed ∧ m.rc = parked { a.rc with travel := none, firstPending := false } ∧
          m = { a with rc := m.rc, cg := { a.cg with rake := m.cg.rake }, sa := m.sa, work := m.work }) ∧
        (a.rc.state ≠ .raising → a.rc.state ≠ .homing → m = a)) ∧
      (k.val = 32 → active = true →
        (a.rc.state = .lowering → turned .raising .first) ∧ (a.rc.state ≠ .lowering → m = a)) ∧
      (k.val = 33 → active = true →
        (a.rc.state = .lowering ∨ a.rc.state = .homing → jammed) ∧
        (a.rc.state = .raising → turned .jamBackoff .second) ∧
        (a.rc.state ≠ .lowering → a.rc.state ≠ .homing → a.rc.state ≠ .raising → m = a)) ∧
      (k.val ≠ 30 → active = false → m = a))

/-! ### The balance and the station clock -/

/-- FLOW_TICK (R20, R21, R23, R24, R75): the additions of a flow tick, `a`, which are all of it but at the T-th of an
interval; that one closes the interval in the same event (R25), whichever of its two commands takes it (log 37). -/
def Obligations.FlowTickAdds : Prop :=
  ∀ s : State, s.be.nextFlow ≤ s.uptime →
    let flow := fun (runs : Pump → Bool) =>
      ((Pump.all.filter fun p => s.present p && runs p).map fun p => (s.ch.get p).force.ratedFlow).sum
    let q := match s.be.level with
      | some l => if s.wellGood && decide (s.be.crest < l) then interp s.be.weir (l - s.be.crest) else 0
      | none => 0
    let qm := if s.liu.sim.isSome then 0 else q
    let a := s.flowTick
    (s.be.ticks + 1 < s.be.t → exec .flowTick s = .next a) ∧
    (s.be.t ≤ s.be.ticks + 1 → ∃ t, exec .flowTick s = .next t ∧ exec .balanceTick s = .next t) ∧
    a = { s with be := a.be, ch := a.ch, om := a.om } ∧
    a.be =
      { s.be with
        p := min 4294967295 (s.be.p + flow s.feedback)
        meteredP := min 4294967295 (s.be.meteredP + flow fun p => s.input (pumpInput p 2))
        w := s.be.w + q
        meteredW := s.be.meteredW + qm
        ticks := s.be.ticks + 1
        nextFlow := s.be.nextFlow + 1000
        preSpill := if s.om.event.isSome then s.be.preSpill else s.be.preSpill + qm } ∧
    (∀ p, a.ch.get p =
      { s.ch.get p with
        wear :=
          { (s.ch.get p).wear with
            runSeconds :=
              if s.present p && s.input (pumpInput p 2) then min 4294967295 ((s.ch.get p).wear.runSeconds + 1)
              else (s.ch.get p).wear.runSeconds } }) ∧
    a.om =
      { s.om with
        event := s.om.event.map fun e =>
          { e with
            spill := min 4294967295 (e.spill + qm)
            unmeasured := if !s.wellGood && s.weirMade then min 4294967295 (e.unmeasured + 1) else e.unmeasured } }

/-- BALANCE_TICK (R25 to R29, R36, R37): the T-th flow tick of an interval, whose additions are `a`, closes it. That
the two commands are one event there is the model's reading (log 37). -/
def Obligations.BalanceTickCloses : Prop :=
  ∀ s : State, s.be.nextFlow ≤ s.uptime → s.be.t ≤ s.be.ticks + 1 →
    let a := s.flowTick
    let est := match s.be.valid, s.be.vStart, s.be.level with
      | true, some v, some l => some (min 65535 ((interp s.be.vol l + a.be.p + a.be.w - v) / s.be.t))
      | _, _, _ => none
    let vEnd := if s.wellGood then s.be.level.map (interp s.be.vol) else none
    let counts := est.isSome && decide (s.be.sum.sumT + s.be.t ≤ 65535)
    let ready := s.su.roster.filter fun p =>
      s.present p && (s.ch.get p).source == .auto && (s.ch.get p).state != .lockedOut &&
        (s.ch.get p).state != .unavailable && !((s.ch.get p).state == .idle && (s.ch.get p).rest.isSome)
    let cap := ((ready.take s.su.dLevel).map fun p => (s.ch.get p).force.ratedFlow).sum
    ∃ t, exec .balanceTick s = .next t ∧
      t = { s.withStation t with be := t.be, om := a.om } ∧
      t.be =
        { a.be with
          estimate := est, lastP := a.be.p, lastW := a.be.w, lastValid := est.isSome, vStart := vEnd
          p := 0, w := 0, meteredP := 0, meteredW := 0, ticks := 0
          valid := vEnd.isSome && s.liu.sim.isNone
          t := s.item 50
          sum :=
            { s.be.sum with
              pumped := min 4294967295 (s.be.sum.pumped + a.be.meteredP)
              spilled := min 4294967295 (s.be.sum.spilled + a.be.meteredW)
              sumIT := if counts then s.be.sum.sumIT + est.getD 0 * s.be.t else s.be.sum.sumIT
              sumT := if counts then s.be.sum.sumT + s.be.t else s.be.sum.sumT } } ∧
      t.su.rise = match est, s.su.level with
        | some i, some l => !s.su.fallback && decide (cap * s.item 23 < i * 100) && decide (s.item 24 ≤ l)
        | _, _ => false


/-- SUMMARY_BOUNDARY (R30, R31), with its record where the log stands below the LOG_FULL count. The mark `boundaryDue`,
which the advance to a multiple leaves for this command, is the model's (log 15). -/
def Obligations.SummaryCloses : Prop :=
  ∀ s : State,
    s.be.boundaryDue = true ∨ (s.rl.clockValid = false ∧ s.be.sum.startUp + s.item 51 * 60000 ≤ s.uptime) →
    ∃ t, exec .summaryBoundary s = .next t ∧
      t = { s with be := t.be, alarms := t.alarms, rl := t.rl } ∧
      t.be =
        { s.be with
          sum := ⟨s.uptime, s.clockTime, 0, 0, none, 0, 0⟩
          boundaryDue := false } ∧
      (s.rl.nextSeq ≠ 0 → s.rl.log.length < 479 →
        t.rl.log = s.rl.log ++
          [⟨s.rl.nextSeq, false, s.clockTime, s.uptime / 1000,
            .summary s.be.sum.startTime ((s.uptime - s.be.sum.startUp) / 1000) s.be.boundaryDue s.be.sum.pumped
              s.be.sum.spilled s.be.sum.highest
              (if s.be.sum.sumT = 0 then none else some (s.be.sum.sumIT / s.be.sum.sumT)) s.be.sum.sumT⟩])

/-- CLOCK_ADVANCE (R141, R30): a valid clock whose second has run advances by 1, its next advance falls a second later,
and a multiple marks a summary boundary; at its greatest value it stays and becomes invalid. That the second is one of
uptime is the model's choice (log 30). -/
def Obligations.ClockAdvances : Prop :=
  ∀ (s : State) (e : Nat), s.rl.clockValid = true → s.rl.nextAdvance = some e → e ≤ s.uptime →
    ∃ t, exec .clockAdvance s = .next t ∧
      (s.rl.clock ≠ 4294967295 →
        t = { s with
          rl := { s.rl with clock := s.rl.clock + 1, nextAdvance := some (e + 1000) }
          be := { s.be with
            boundaryDue := s.be.boundaryDue || decide ((s.rl.clock + 1) % (s.item 51 * 60) = 0) } }) ∧
      (s.rl.clock = 4294967295 →
        t.rl.clock = 4294967295 ∧ t.rl.clockValid = false ∧ (s.pointsHeld → (t.point 45).cond = true) ∧
        t = { s with alarms := t.alarms, rl := t.rl })

/-! ### Overflow events -/

/-- R114, R115, R118: an evaluation of the overflow and close conditions. OVERFLOW_OPEN_TIMER_END (R116) with its
records in their order, OVERFLOW_CLOSE_TIMER_END (R118) and OVERFLOW_RECORD_UPDATE (R117). -/
def Obligations.OverflowEventsRun : Prop :=
  (∀ s : State,
    let t := s.omEvaluate
    let overflow := match s.well.state, s.well.level with
      | .good, some l => decide (s.item 46 < l)
      | .good, none => false
      | _, _ => s.weirMade
    let close := match s.well.state, s.well.level with
      | .good, some l => decide (l ≤ s.item 46 - s.item 47)
      | .good, none => false
      | _, _ => !s.weirMade
    (s.om.state = .quiet → overflow = true →
      t = { s with
        om := { s.om with
          state := .opening, openTimer := some (s.uptime + s.item 48 * 1000), debounce := some (s.uptime, s.clockTime) }
        be := { s.be with preSpill := 0 } }) ∧
    (s.om.state = .opening → overflow = false → t = { s with om := { s.om with state := .quiet, openTimer := none } }) ∧
    (s.om.state = .opened → close = true →
      t = { s with om := { s.om with state := .closing, closeTimer := some (s.uptime + s.item 49 * 1000) } }) ∧
    (s.om.state = .closing → close = false → t = { s with om := { s.om with state := .opened, closeTimer := none } }) ∧
    ((s.om.state = .quiet ∧ overflow = false) ∨ (s.om.state = .opening ∧ overflow = true) ∨
      (s.om.state = .opened ∧ close = false) ∨ (s.om.state = .closing ∧ close = true) → t = s)) ∧
  (∀ (s : State) (e : Nat), s.om.state = .opening → s.om.openTimer = some e → e ≤ s.uptime →
    let start := s.om.debounce.getD (s.uptime, s.clockTime)
    let level := if s.wellGood then s.well.level else none
    ∃ t, exec .overflowOpenTimerEnd s = .next t ∧
      t.om =
        { s.om with
          state := .opened, openTimer := none
          nextNum := if s.om.nextNum = 65535 then 1 else s.om.nextNum + 1
          nextUpdate := (s.uptime / 1000 + 1) * 1000
          event := some
            { num := s.om.nextNum, startUp := start.1, startTime := start.2, openLevel := level, peak := level
              spill := min 4294967295 s.be.preSpill, unmeasured := 0, elapsed := (s.uptime - start.1) / 1000
              lastTime := s.clockTime } } ∧
      t.be = { s.be with preSpill := 0 } ∧
      (s.pointsHeld → (t.point 33).cond = true) ∧
      (s.rl.full = false → s.rl.nextSeq ≠ 0 → s.rl.nextSeq ≠ 4294967295 → s.rl.log.length < 478 → s.pointsHeld →
        let a := s.point 33
        t.rl.log = s.rl.log ++
          ⟨s.rl.nextSeq, true, s.clockTime, s.uptime / 1000, .overflowOpen s.om.nextNum level⟩ ::
          (if s.enabled 33 = true ∧ a.cond = false ∧ (a.state = .normal ∨ a.state = .clearedUnack) then
            [⟨s.rl.nextSeq + 1, s.priority 33 == 1, s.clockTime, s.uptime / 1000,
              .alarmChange 33 .activeUnack (min 255 (a.count + 1))⟩]
          else [])) ∧
      t = { s with om := t.om, be := t.be, alarms := t.alarms, rl := t.rl }) ∧
  (∀ (s : State) (e : Nat), s.om.state = .closing → s.om.closeTimer = some e → e ≤ s.uptime →
    ∃ t, exec .overflowCloseTimerEnd s = .next t ∧
      t.om = { s.om with state := .quiet, closeTimer := none, event := none } ∧
      t = { s with om := t.om, alarms := t.alarms, rl := t.rl } ∧
      (s.om.event.isSome = true → s.pointsHeld → (t.point 33).cond = false) ∧
      (∀ v, s.om.event = some v → s.rl.nextSeq ≠ 0 → s.rl.nextSeq ≠ 4294967295 → s.rl.log.length < 478 →
        ∃ post, t.rl.log = s.rl.log ++
          ⟨s.rl.nextSeq, true, s.clockTime, s.uptime / 1000,
            .overflowClose v.num s.clockTime ((s.uptime - v.startUp) / 1000) v.spill v.peak v.unmeasured .normal⟩ ::
          post)) ∧
  (∀ (s : State) (v : Event), s.om.event = some v → s.om.nextUpdate ≤ s.uptime →
    exec .overflowRecordUpdate s = .next
      { s with
        om := { s.om with
          event := some { v with elapsed := (s.uptime - v.startUp) / 1000, lastTime := s.clockTime }
          nextUpdate := (s.uptime / 1000 + 1) * 1000 } })

/-! ### Staging -/

/-- R39, R55: a condition of fallback becomes true: the entry, and the first record of a fallback that a reset began
with. -/
def Obligations.FallbackEntered : Prop :=
  ∀ (s : State) (m : ModeChange),
    let t := s.fallbackCondition m
    let recorded := s.rl.nextSeq ≠ 0 → s.rl.log.length < 479 →
      t.rl.log = s.rl.log ++ [⟨s.rl.nextSeq, false, s.clockTime, s.uptime / 1000, .mode m⟩]
    (s.su.fallback = false →
      t.su.fallback = true ∧ t.su.quietFallback = false ∧ t.su.rise = false ∧ t.su.handover = none ∧
      t.su.flags = s.su.flags ∧ t.su.level = s.su.level ∧
      t.su.lf = min (Pump.all.filter fun p =>
        s.present p && (s.ch.get p).source == .auto && s.lineDriver p).length s.sa.limit ∧
      (s.su.handover = none → t = { s with su := t.su, alarms := t.alarms, rl := t.rl } ∧ recorded)) ∧
    (s.su.fallback = true → s.su.quietFallback = true →
      t = { s with su := { s.su with quietFallback := false }, alarms := t.alarms, rl := t.rl } ∧ recorded) ∧
    (s.su.fallback = true → s.su.quietFallback = false → t = s)

/-- R88 to R91, R72, R110: the power source re-derived as the mains or the generator contact changes: the loss of both
clears the station, the return of one begins the restart hold, or calls for an offer where it has no length, and lets
the IDLE channels join in ascending number (the posts of staging come after it, log 49), a lowered limit sheds its
excess, and each change is recorded: that MAINS_FAIL's ALARM_CHANGE stands before the POWER record is read from the
order of R88's list (log 36, which names the other reading). R90: which pumps an excess takes: `manual` is the order of
the MANUAL pumps, whatever way it is found; the time of making is read off the stamp the model gives an entry (log 17).
`staggerOn` is the model's mark (log 3). -/
def Obligations.PowerSourceChanges : Prop :=
  (∀ s : State,
    let t := s.changePower
    let source : Power := if s.input 34 then .mains else if s.input 35 then .generator else .dead
    let limit := match source with
      | .mains => s.item 27
      | .generator => min (s.item 27) (s.item 28)
      | .dead => 0
    (source = s.sa.power → t = s) ∧
    t.sa.power = source ∧
    (source ≠ s.sa.power →
      t.sa.limit = limit ∧
      (s.pointsHeld → (t.point 40).cond = (source != .mains)) ∧ t = s.withStation t ∧
      (s.rl.full = false → s.rl.nextSeq ≠ 0 → s.rl.nextSeq ≠ 4294967295 → s.rl.log.length < 478 →
        ∃ change, t.rl.log = s.rl.log ++ change ++
          [⟨s.rl.nextSeq + change.length, false, s.clockTime, s.uptime / 1000, .mode (.power s.sa.power source)⟩] ∧
          change.length ≤ 1 ∧
          ∀ r ∈ change, r.seq = s.rl.nextSeq ∧ r.body = .alarmChange 40 (t.point 40).state (t.point 40).count)) ∧
    (source = .dead → s.sa.power ≠ .dead →
      t.sa.holder = .none ∧ t.sa.queue = [] ∧ t.sa.waiters = [] ∧ t.sa.hold = none ∧ t.sa.rakeInrush = none ∧
      t.sa.staggerOn = false ∧ t.sa.hist = s.sa.hist ∧ t.sa.pumpHist = s.sa.pumpHist ∧
      (∀ p, (s.ch.get p).state ≠ .lockedOut →
        (t.ch.get p).state = (if (s.ch.get p).source = .off then .unavailable else .idle) ∧
        t.lineDriver p = false ∧ t.starDriver p = false ∧ t.deltaDriver p = false ∧
        (t.ch.get p).fbDeadline = none ∧ (t.ch.get p).deferred = false ∧
        (s.su.handover = none → (t.ch.get p).standing = (s.ch.get p).standing)) ∧
      (∀ p, (s.ch.get p).state = .lockedOut →
        (t.ch.get p).state = .lockedOut ∧ (t.ch.get p).cause = (s.ch.get p).cause) ∧
      (s.rc.state = .off ∨ s.rc.state = .locked → t.rc = s.rc) ∧
      (s.rc.state = .parked ∨ s.rc.state = .waitPermit →
        t.rc = { s.rc with retry := 0, travel := none, backoff := none, discharge := none }) ∧
      (s.rc.state = .lowering ∨ s.rc.state = .raising ∨ s.rc.state = .jamBackoff ∨ s.rc.state = .homing ∨
          s.rc.state = .discharge →
        t.rc =
          { s.rc with
            state := .waitPermit, purpose := .home, retry := 0, travel := none, backoff := none, discharge := none
            firstPending := false }) ∧
      (s.rc.state ≠ .off → s.rc.state ≠ .locked → t.rakeUp = false ∧ t.rakeDown = false ∧ t.cg.rake.held = none)) ∧
    (source ≠ .dead → s.sa.power = .dead → s.item 34 ≠ 0 →
      t.sa.hold = some (s.uptime + s.item 34 * 1000)) ∧
    (source ≠ .dead → s.sa.power = .dead → s.sa.limit ≤ limit → s.su.handover = none →
      let hand := fun p : Pump => (s.ch.get p).state == .idle && (s.ch.get p).source == .hand
      let asks := fun p : Pump =>
        (s.ch.get p).state == .idle && ((s.ch.get p).source == .auto || (s.ch.get p).source == .manual) &&
          (s.ch.get p).standing && (s.ch.get p).rest.isNone && s.lowMade
      (∀ p, t.ch.get p = if hand p || asks p then { s.ch.get p with state := .queued } else s.ch.get p) ∧
      t.sa =
        { s.sa with
          power := source
          limit := limit
          queue := s.sa.queue ++ Pump.all.filter asks
          waiters := s.sa.waiters ++ Pump.all.filter hand
          hold := if s.item 34 = 0 then s.sa.hold else some (s.uptime + s.item 34 * 1000)
          lastRelease := if s.item 34 = 0 then none else s.sa.lastRelease
          staggerOn := if s.item 34 = 0 then false else s.sa.staggerOn } ∧
      (s.item 34 = 0 → t.work.offer = true) ∧ t.su = s.su ∧ t.cg = s.cg ∧ t.rc = s.rc) ∧
    (source ≠ s.sa.power → source ≠ .dead → s.sa.power ≠ .dead → limit < s.sa.limit → s.su.handover = none →
      let u := { s with sa := { s.sa with power := source, limit := limit } }
      t.ch = u.shedExcess.ch ∧ t.cg = u.shedExcess.cg ∧ t.sa = u.shedExcess.sa ∧ t.su = u.shedExcess.su)) ∧
  (∀ (s : State) (manual : List Pump),
    let runs := fun p => (s.ch.get p).asksLine && !(s.ch.get p).gated
    let auto := fun (state : ChState → Bool) =>
      s.su.roster.reverse.filter fun p => (s.ch.get p).source == .auto && runs p && state (s.ch.get p).state
    let made := fun p => (s.su.entry.get p).map Entry.stamp
    (∀ p, p ∈ manual ↔ (s.ch.get p).source = .manual ∧ runs p = true) →
    manual.Pairwise (fun p q => ∃ a b, made p = some a ∧ made q = some b ∧ b < a) →
    let staged := fun p => (s.ch.get p).source == .auto || (s.ch.get p).source == .manual
    let excess := (Pump.all.filter fun p => runs p && staged p).length - s.sa.limit
    let chosen := (auto (fun x => x != .running) ++ auto (fun x => x == .running) ++ manual).take excess
    let t := s.shedExcess
    (∀ p, p ∉ chosen → t.ch.get p = s.ch.get p ∧ t.su.posted.get p = s.su.posted.get p) ∧
    (∀ p ∈ chosen,
      (t.ch.get p).asksLine = false ∧ (t.ch.get p).standing = false ∧ (t.ch.get p).deferred = false ∧
      ((s.ch.get p).standing = true → t.su.posted.get p = .none) ∧
      (s.input (pumpInput p 2) = true → (t.ch.get p).state = .stopping) ∧
      (s.input (pumpInput p 2) = false → (t.ch.get p).state = .idle) ∧
      (s.sa.holder = .pump p → t.sa.holder = .none ∧ t.sa.lastRelease = some s.uptime)) ∧
    t = { s with su := { s.su with posted := t.su.posted }, ch := t.ch, cg := t.cg, sa := t.sa, work := t.work })

/-- MANUAL_ENTRY_EXPIRY (R44, R42): the entry goes and the source is re-derived. DUTY_HOLD_EXPIRY (R51, R52): deferred
where D equals the limit, else a rotation with handover. A rotation in which no pump goes out leaves the record of a
handover in progress, and one in which some do overwrites it: the model's reading (log 29). HANDOVER_TIMEOUT (R52): the
record is discarded and each outgoing AUTO pump is posted STOP. -/
def Obligations.StagingTimersEnd : Prop :=
  (∀ (s : State) (p : Pump) (e : Entry), s.su.entry.get p = some e → e.expiry ≤ s.uptime →
    ∃ t, exec (.manualEntryExpiry p) s = .next t ∧
      t.su.entry = s.su.entry.set p none ∧
      (t.ch.get p).source =
        (if s.present p then
          match s.input (pumpInput p 0), s.input (pumpInput p 1) with
          | true, false => .hand
          | false, true => .auto
          | _, _ => .off
        else .off) ∧
      (∀ q, q ≠ p → (t.ch.get q).source = (s.ch.get q).source) ∧
      t = s.withStation t) ∧
  (∀ (s : State) (d0 : Nat), s.su.dutyStart = some d0 → s.item 26 ≠ 0 → d0 + s.item 26 * 3600000 ≤ s.uptime →
    (s.sa.limit ≤ s.su.d →
      exec .dutyHoldExpiry s = .next (s.finish { s with su := { s.su with deferredRot := true, dutyStart := none } })) ∧
    (s.su.d < s.sa.limit →
      ∃ m, exec .dutyHoldExpiry s = .next (s.finish m) ∧
        let old := s.su.target.filter fun p => (s.ch.get p).source == .auto
        let out := old.filter fun p => !m.su.target.contains p
        m = { s with su :=
          { s.su with
            roster := s.sortedRoster, deferredRot := false, dutyStart := m.su.dutyStart, target := m.su.target
            handover :=
              if out = [] then s.su.handover
              else some { outgoing := out, incoming := m.su.target.filter (fun p => !old.contains p), start := s.uptime } } } ∧
        m.su.target = (s.sortedRoster.filter s.eligible).take (min s.su.d (s.sa.limit - s.manualRuns)) ∧
        m.su.dutyStart = (match s.sortedRoster with
          | p :: _ =>
            if (s.ch.get p).state = .running ∧ (s.ch.get p).source = .auto ∧ (s.ch.get p).lineActive = true then
              some s.uptime
            else none
          | [] => none))) ∧
  (∀ (s : State) (h : Handover), s.su.handover = some h → h.start + 120000 ≤ s.uptime →
    ∃ m, exec .handoverTimeout s = .next (s.finish m) ∧
      m.su.handover = none ∧
      (∀ p, m.su.posted.get p = if p ∈ h.outgoing ∧ (s.ch.get p).source = .auto then .stop else s.su.posted.get p) ∧
      (∀ p, p ∉ h.outgoing → m.ch.get p = s.ch.get p) ∧
      m = { s with
        su := { s.su with posted := m.su.posted, handover := none }
        ch := m.ch
        cg := m.cg
        sa := m.sa
        work := m.work } ∧
      (s.su.deferredRot = false → (s.finish m).su.handover = none))

/-! ### Starter channels -/

/-- DOL_RUNUP_END (R58, R64): the channel enters RUNNING and releases the permit; with a deferred stop and min_run at 0
the stop is taken at once (R60). STAR_TIMER_END (R59, R77): STAR is released and DELTA asked for; the channel enters
CHANGEOVER, and RUNNING where the guard grants at once. GUARD_GRANT (R59, R77, R101 to R104, R106): a held request
whose dead time has run is granted, with what becoming active brings at the channel or the rake. R77: the guard's
answer to a request and to a release. `staggerOn` is the model's mark of the stagger that the release begins
(log 3). -/
def Obligations.StartSequenceTimers : Prop :=
  let running := fun (s m : State) (p : Pump) =>
    let c := s.ch.get p
    (∀ q, q ≠ p → m.ch.get q = s.ch.get q) ∧
    (s.sa.holder = .pump p → m.sa.holder = .none ∧ m.sa.lastRelease = some s.uptime ∧ m.sa.staggerOn = true) ∧
    (¬(c.deferred = true ∧ c.force.minRun = 0) →
      m.ch.get p =
        { c with
          state := .running, runningSince := s.uptime, seqTimer := none
          fbDeadline :=
            if c.fbSeen && !s.feedback p then some (s.uptime + s.item 29 * 1000) else c.fbDeadline } ∧
      m.cg = s.cg ∧ m.work = s.work ∧
      m.su.dutyStart =
        if s.su.roster.head? = some p ∧ c.source = .auto ∧ c.gated = false then some s.uptime else s.su.dutyStart) ∧
    (c.deferred = true → c.force.minRun = 0 →
      (m.ch.get p).asksLine = false ∧ (m.ch.get p).deferred = false ∧
      (m.cg.pump.get p).firstOn = false ∧ (m.cg.pump.get p).secondOn = false) ∧
    m = { s with ch := m.ch, cg := m.cg, sa := m.sa, su := { s.su with dutyStart := m.su.dutyStart }, work := m.work }
  (∀ (s : State) (p : Pump) (e : Nat), (s.ch.get p).state = .direct → (s.ch.get p).seqTimer = some e → e ≤ s.uptime →
    ∃ m, exec (.dolRunupEnd p) s = .next (s.finish m) ∧ running s m p) ∧
  (∀ (s : State) (p : Pump) (e : Nat), (s.ch.get p).state = .star → (s.ch.get p).seqTimer = some e → e ≤ s.uptime →
    let x := (s.cg.pump.get p).release s.uptime .first
    let y := x.request s.uptime (s.item 30) .second
    let s1 :=
      { s with
        ch := s.ch.set p { s.ch.get p with state := .changeover, seqTimer := none }
        cg := { s.cg with pump := s.cg.pump.set p y } }
    ∃ m, exec (.starTimerEnd p) s = .next (s.finish m) ∧
      (x.secondOn = true ∨ y.secondOn = false → m = s1) ∧ (x.secondOn = false → y.secondOn = true → running s1 m p)) ∧
  (∀ (s : State) (g : GuardPair) (k : Member),
    (s.pair g).held = some k → (s.pair g).on k.other = false →
    (∀ r, (s.pair g).rel k.other = some r → r + s.deadTime g ≤ s.uptime) →
      let s1 := s.setPair g ((s.pair g).activate k)
      ∃ m, exec (.guardGrant g) s = .next (s.finish m) ∧
        (∀ p, g = .pump p → k = .first →
          m =
            if (s.ch.get p).state = .star then
              { s1 with
                ch := s.ch.set p { s.ch.get p with seqTimer := some (s.uptime + (s.ch.get p).force.starTime * 1000) } }
            else s1) ∧
        (∀ p, g = .pump p → k = .second →
          ((s.ch.get p).state = .changeover → running s1 m p) ∧ ((s.ch.get p).state ≠ .changeover → m = s1)) ∧
        (g = .rake →
          let first := s.rc.firstPending && k == (match s.rc.purpose with | .cycle => .second | .home => .first)
          m =
            { s1 with
              rc :=
                { s.rc with
                  travel :=
                    match s.rc.state, k with
                    | .lowering, .second => some (s.uptime + s.item 38 * 1000)
                    | .raising, .first => some (s.uptime + s.item 39 * 1000)
                    | .homing, .first => some (s.uptime + s.item 39 * 1000)
                    | _, _ => s.rc.travel
                  backoff :=
                    match s.rc.state, k with
                    | .jamBackoff, .second => some (s.uptime + s.item 40 * 1000)
                    | _, _ => s.rc.backoff
                  firstPending := s.rc.firstPending && !first }
              sa :=
                if first = true ∧ s.sa.holder = .rake then
                  { s.sa with rakeInrush := some (s.uptime + s.item 45 * 1000) }
                else s.sa })) ∧
  (∀ (x : Pair) (now dead : Nat) (k : Member),
    let y := x.request now dead k
    let free := x.on k.other = false ∧ ∀ r, x.rel k.other = some r → r + dead ≤ now
    (x.on k = true ∨ x.held = some k → y = x) ∧
    (x.on k = false → x.held ≠ some k → free → y.on k = true ∧ y.held = none) ∧
    (x.on k = false → x.held ≠ some k → ¬free → y.on k = false ∧ y.held = some k) ∧
    y.on k.other = x.on k.other ∧ y.firstRel = x.firstRel ∧ y.secondRel = x.secondRel) ∧
  (∀ (x : Pair) (now : Nat) (k : Member),
    let y := x.release now k
    y.on k = false ∧ y.rel k = (if x.on k then some now else x.rel k) ∧
    y.held = (if x.held = some k then none else x.held) ∧
    y.on k.other = x.on k.other ∧ y.rel k.other = x.rel k.other)


/-- MIN_RUN_END (R60, R62): the deferred stop is taken: the outputs drop, the rest and the feedback deadline are set,
and the channel is STOPPING while its feedback is active. -/
def Obligations.MinRunEnds : Prop :=
  ∀ (s : State) (p : Pump), (s.ch.get p).state = .running → (s.ch.get p).deferred = true →
    (s.ch.get p).runningSince + (s.ch.get p).force.minRun * 1000 ≤ s.uptime →
    let c := s.ch.get p
    ∃ m, exec (.minRunEnd p) s = .next (s.finish m) ∧
      m = { s with ch := m.ch, cg := m.cg, sa := m.sa, work := m.work } ∧
      (∀ q, q ≠ p → m.ch.get q = s.ch.get q) ∧
      (m.cg.pump.get p).firstOn = false ∧ (m.cg.pump.get p).secondOn = false ∧ (m.cg.pump.get p).held = none ∧
      (m.ch.get p).asksLine = false ∧
      (c.gated = false → s.input (pumpInput p 2) = true →
        m.ch.get p =
          { c with
            state := .stopping, deferred := false, seqTimer := none
            rest := some (s.uptime + c.force.minRest * 1000)
            fbDeadline := if s.sa.power = .dead then none else some (s.uptime + s.item 29 * 1000) })

/-- FEEDBACK_DEADLINE (R63 to R65, R67): the channel locks out with the cause its state gives, its outputs drop, it
stands in neither list, and the point of the cause is true. That the gated mark is clear then is the model's
(log 18). -/
def Obligations.DeadlineLocksOut : Prop :=
  ∀ (s : State) (p : Pump) (d : Nat), (s.ch.get p).fbDeadline = some d → d ≤ s.uptime →
    let c := s.ch.get p
    let cause : Cause := if c.state = .stopping then .noStop else if c.fbSeen then .runLost else .noStart
    ∃ t, exec (.feedbackDeadline p) s = .next t ∧
      (t.ch.get p).state = .lockedOut ∧ (t.ch.get p).cause = cause ∧ (t.ch.get p).fbDeadline = none ∧
      (t.ch.get p).gated = false ∧ t.lineDriver p = false ∧ p ∉ t.sa.queue ∧ p ∉ t.sa.waiters ∧
      (s.pointsHeld →
        (t.point (pumpPoint p (match cause with | .noStop => 3 | .runLost => 4 | _ => 2))).cond = true) ∧
      t = s.withStation t

/-- REST_END (R62, R57): the resting mark clears and the channel joins the queue where it may. -/
def Obligations.RestEnds : Prop :=
  ∀ (s : State) (p : Pump) (r : Nat), (s.ch.get p).state = .idle → (s.ch.get p).rest = some r → r ≤ s.uptime →
    let c := s.ch.get p
    let live := s.sa.power ≠ .dead
    exec (.restEnd p) s = .next (s.finish
      (if live ∧ c.source = .hand then
        { s with
          ch := s.ch.set p { c with rest := none, state := .queued }
          sa := { s.sa with waiters := s.sa.waiters ++ [p] }
          work := { s.work with offer := true } }
      else if live ∧ (c.source = .auto ∨ c.source = .manual) ∧ c.standing = true ∧ s.lowMade = true then
        { s with
          ch := s.ch.set p { c with rest := none, state := .queued }
          sa := { s.sa with queue := s.sa.queue ++ [p] }
          work := { s.work with offer := true } }
      else { s with ch := s.ch.set p { c with rest := none } }))

/-! ### The arbiter's timers -/

/-- RESTART_HOLD_END (R91), STAGGER_END (R80), HISTORY_WINDOW_END (R86) and RAKE_INRUSH_TIMER_END (R87). `staggerOn`
and `windowMark`, by which an end is taken once as an event, are the model's marks (log 3). -/
def Obligations.ArbiterTimersEnd : Prop :=
  (∀ (s : State) (e : Nat), s.sa.hold = some e → e ≤ s.uptime →
    exec .restartHoldEnd s = .next (s.finish
      { s with
        sa := { s.sa with hold := none, lastRelease := none, staggerOn := false }
        work := { s.work with offer := true } })) ∧
  (∀ (s : State) (r : Nat), s.sa.staggerOn = true → s.sa.lastRelease = some r → r + s.item 31 * 1000 ≤ s.uptime →
    exec .staggerEnd s = .next (s.finish
      { s with sa := { s.sa with staggerOn := false }, work := { s.work with offer := true } })) ∧
  (∀ s : State,
    (∃ e ∈ s.sa.hist, s.sa.windowMark < e.1 + s.item 33 * 1000 ∧ e.1 + s.item 33 * 1000 ≤ s.uptime) ∨
      (∃ p, ∃ u ∈ s.sa.pumpHist.get p, s.sa.windowMark < u + 3600000 ∧ u + 3600000 ≤ s.uptime) →
    exec .historyWindowEnd s = .next (s.finish
      { s with sa := { s.sa with windowMark := s.uptime }, work := { s.work with offer := true } })) ∧
  (∀ (s : State) (e : Nat), s.sa.rakeInrush = some e → e ≤ s.uptime → s.sa.holder = .rake →
    exec .rakeInrushTimerEnd s = .next (s.finish
      { s with sa :=
        { s.sa with holder := .none, lastRelease := some s.uptime, staggerOn := true, rakeInrush := none } }))

/-! ### The rake -/

/-- RAKE_TRAVEL_TIMEOUT (R102, R103, R106, R107) and JAM_BACKOFF_END (R104). -/
def Obligations.RakeTimersEnd : Prop :=
  (∀ (s : State) (e : Nat), s.rc.state = .lowering ∨ s.rc.state = .raising ∨ s.rc.state = .homing →
    s.rc.travel = some e → e ≤ s.uptime →
    ∃ t, exec .rakeTravelTimeout s = .next t ∧
      t.rc =
        { s.rc with
          state := .locked, retry := 0, cause := .travel, travel := none, backoff := none, discharge := none
          firstPending := false } ∧
      t.rakeUp = false ∧ t.rakeDown = false ∧ t.cg.rake.held = none ∧ t.sa.holder ≠ .rake ∧
      (s.pointsHeld → (t.point 38).cond = true) ∧
      t = s.withStation t) ∧
  (∀ (s : State) (e : Nat), s.rc.state = .jamBackoff → s.rc.backoff = some e → e ≤ s.uptime →
    ∃ t, exec .jamBackoffEnd s = .next t ∧
      t.rakeDown = false ∧
      (s.item 42 < s.rc.retry + 1 ∨ s.rakeOverload = true →
        t.rc.state = .locked ∧ t.rc.cause = .jam ∧ t.rc.retry = 0 ∧ (s.pointsHeld → (t.point 37).cond = true)) ∧
      (s.rc.retry + 1 ≤ s.item 42 → s.rakeOverload = false →
        t.rc.state = .raising ∧ t.rc.retry = s.rc.retry + 1 ∧ t.rc.backoff = none ∧ t.rc.owed = s.rc.owed ∧
        (s.rakeDown = true → s.rakeUp = false → 0 < s.item 44 → t.cg.rake.held = some .first ∧ t.rakeUp = false)) ∧
      t = s.withStation t)

/-- DISCHARGE_END (R105), RAKE_INTERVAL_EXPIRY (R98) and RAKE_REQUEST (R96), whose request moves a PARKED rake to
WAIT_PERMIT for CYCLE (R100), and BLINDING_TIMER_END (R111). The count in the reply is the one after the event (log
19). -/
def Obligations.RakeCyclesCounted : Prop :=
  -- the rake and its call for an offer after a request
  let added := fun (s : State) =>
    if s.rc.owed < 8 then
      { s.rc with
        owed := s.rc.owed + 1
        forced := s.rc.owed + 1 == 8 || match s.liu.diff with | some v => decide (s.item 36 ≤ v) | none => false
        state := if s.rc.state = .parked then .waitPermit else s.rc.state
        purpose := if s.rc.state = .parked then .cycle else s.rc.purpose
        retry := if s.rc.state = .parked then 0 else s.rc.retry }
    else s.rc
  let asked := fun (s : State) =>
    { s.work with
      offer := s.work.offer || decide (s.rc.owed < 8 ∧ (s.rc.state = .parked ∨ s.rc.state = .waitPermit)) }
  (∀ (s : State) (e : Nat), s.rc.state = .discharge → s.rc.discharge = some e → e ≤ s.uptime →
    let left := match s.liu.diff with
      | some v => if v < s.item 35 then 0 else s.rc.owed
      | none => s.rc.owed - 1
    ∃ m, exec .dischargeEnd s = .next (s.finish m) ∧
      m = { s with rc := m.rc, work := m.work } ∧ m.rc.owed = left ∧ m.rc.retry = 0 ∧ m.rc.discharge = none ∧
      m.rc.interval = (if s.item 37 = 0 then none else some (s.uptime + s.item 37 * 60000)) ∧
      (left = 0 → m.rc.state = .parked) ∧
      (0 < left → m.rc.state = .waitPermit ∧ m.rc.purpose = .cycle ∧ m.work.offer = true)) ∧
  (∀ (s : State) (e : Nat), s.owedBound → s.rc.interval = some e → e ≤ s.uptime →
    let again := if s.item 37 = 0 then none else some (s.uptime + s.item 37 * 60000)
    ∃ t, exec .rakeIntervalExpiry s = .next t ∧
      t = s.finish { s with rc := { added s with interval := again }, work := asked s } ∧
      t.rc.owed = min 8 (s.rc.owed + 1) ∧
      t.rc.interval = again ∧ t = s.withStation t) ∧
  (∀ (s : State) (p : Port) (tag : Byte), s.owedBound →
    let h := s.hear p
    ∃ t, exec (.rakeRequest p tag) s = .next t ∧
      t = { h.finish { h with rc := added h, work := asked h } with ports := t.ports } ∧
      t.rc.owed = min 8 (s.rc.owed + 1) ∧
      t.accepted p tag 0x30 [BitVec.ofNat 8 (min 8 (s.rc.owed + 1)), if s.rc.owed = 8 then 1 else 0] ∧
      t = { s.withStation t with ports := t.ports }) ∧
  (∀ (s : State) (e : Nat), s.rc.blindTimer = some e → e ≤ s.uptime →
    ∃ t, exec .blindingTimerEnd s = .next t ∧
      t = { s with rc := { s.rc with blindTimer := none, blinded := true }, alarms := t.alarms, rl := t.rl } ∧
      (s.pointsHeld → (t.point 39).cond = true))

/-! ### Simulation sessions -/

/-- SIM_TIME_LIMIT and SIM_EXIT from the panel (R16, R32, R34, R74, R92), each entry and exit with its MODE record,
SIM_EXIT and SIM_SET refused with the flag off (R15, R16); SIM_ENTER (R14) where its five conditions hold, where one
fails and in a session; and SIM_SET (R15) during a session, from the panel. -/
def Obligations.SimulationSessions : Prop :=
  let ended := fun (s t : State) =>
    t.liu = { s.liu with sim := none } ∧ t.sa.simHist = none ∧ t.be = { s.be with valid := false, level := s.well.level } ∧
    t.su.level = s.well.level ∧ t.su.fresh = s.well.level.isSome ∧
    (∀ p, (t.ch.get p).gated = false) ∧ (s.pointsHeld → (t.point 46).cond = false) ∧
    t = { s.withStation t with liu := t.liu, be := t.be, ports := t.ports }
  let recorded := fun (h t : State) (b : ModeChange) =>
    h.rl.nextSeq ≠ 0 → h.rl.nextSeq < 4294967000 → h.rl.log.length < 470 →
      ∃ change later, t.rl.log = h.rl.log ++ change ++
          ⟨h.rl.nextSeq + change.length, false, h.clockTime, h.uptime / 1000, .mode b⟩ :: later ∧
        change.length ≤ 1 ∧ ∀ x ∈ change, ∃ st n, x.body = .alarmChange 46 st n
  (∀ (s : State) (u : Session), s.liu.sim = some u → u.start + 1800000 ≤ s.uptime →
    ∃ t, exec .simTimeLimit s = .next t ∧ ended s t ∧ t.ports = s.ports ∧ recorded s t (.simExit .timeLimit)) ∧
  (∀ (s : State) (u : Session) (tag : Byte), s.liu.sim = some u →
    ∃ t, exec (.simExit .panel tag) s = .next t ∧ ended s t ∧ t.accepted .panel tag 0x13 [] ∧ t.ports.town = s.ports.town ∧
      recorded (s.hear .panel) t (.simExit .panelExit)) ∧
  (∀ (s : State) (tag : Byte), s.liu.sim = none →
    ∃ t, exec (.simExit .panel tag) s = .next t ∧ t.refused .panel tag 0x13 .notInSim none ∧
      t = { s.hear .panel with ports := t.ports }) ∧
  (∀ (s : State) (tag : Byte) (a b : BitVec 16) (l : Nat), s.liu.sim = none →
    s.well.state = .good → s.well.level = some l → l < s.item 17 → s.autoLines = 0 → s.om.event = none →
    s.highMade = false →
    ∃ t, exec (.simEnter .panel tag a b) s = .next t ∧
      t.liu = { s.liu with sim := some ⟨min a.toNat 20000, min b.toNat 20000, s.uptime⟩ } ∧
      t.be = { s.be with valid := false, level := some (min a.toNat 20000) } ∧
      t.su.level = some (min a.toNat 20000) ∧ t.sa.simHist.isSome = true ∧ recorded (s.hear .panel) t .simEnter ∧
      (s.pointsHeld → (t.point 46).cond = true) ∧
      t.accepted .panel tag 0x11 (beBytes 2 (min a.toNat 20000) ++ beBytes 2 (min b.toNat 20000)) ∧
      t.ports.town = s.ports.town ∧ t = { s.withStation t with liu := t.liu, be := t.be, ports := t.ports }) ∧
  (∀ (s : State) (tag : Byte) (a b : BitVec 16) (u : Session), s.liu.sim = some u →
    ∃ t, exec (.simSet .panel tag a b) s = .next t ∧
      t.liu = { s.liu with sim := some ⟨min a.toNat 20000, min b.toNat 20000, u.start⟩ } ∧
      t.be = { s.be with level := some (min a.toNat 20000) } ∧ t.su.level = some (min a.toNat 20000) ∧
      t.accepted .panel tag 0x12 (beBytes 2 (min a.toNat 20000) ++ beBytes 2 (min b.toNat 20000)) ∧
      t.ports.town = s.ports.town ∧ t = { s.withStation t with liu := t.liu, be := t.be, ports := t.ports }) ∧
  (∀ (s : State) (tag : Byte) (a b : BitVec 16), s.liu.sim.isSome = true →
    ∃ t, exec (.simEnter .panel tag a b) s = .next t ∧ t.refused .panel tag 0x11 .simActive none ∧
      t = { s.hear .panel with ports := t.ports }) ∧
  (∀ (s : State) (tag : Byte) (a b : BitVec 16) (n : Nat), s.liu.sim = none →
    (if s.well.state ≠ .good then some 1
      else if (match s.well.level with | some l => decide (l < s.item 17) | none => false) = false then some 2
      else if s.autoLines ≠ 0 then some 3
      else if s.om.event.isSome = true then some 4
      else if s.highMade = true then some 5
      else none) = some n →
    ∃ t, exec (.simEnter .panel tag a b) s = .next t ∧ t.refused .panel tag 0x11 .simConditions (some n) ∧
      t = { s.hear .panel with ports := t.ports }) ∧
  (∀ (s : State) (tag : Byte) (a b : BitVec 16), s.liu.sim = none →
    ∃ t, exec (.simSet .panel tag a b) s = .next t ∧ t.refused .panel tag 0x12 .notInSim none ∧
      t = { s.hear .panel with ports := t.ports })

/-! ### Links, the store and the ports -/

/-- LINK_TIMEOUT (R156, R157, R44, R164, R16): the link falls SILENT, the port's entries and its claim go, the panel's
simulation ends, and the link's point is true. -/
def Obligations.LinkFallsSilent : Prop :=
  ∀ (s : State) (p : Port) (e : Nat), (s.ports.get p).link ≠ .silent → (s.ports.get p).linkTimer = some e →
    e ≤ s.uptime →
    ∃ t, exec (.linkTimeout p) s = .next t ∧
      t.ports = s.ports.set p { s.ports.get p with link := .silent, linkTimer := none } ∧
      (∀ q x, t.su.entry.get q = some x ↔ s.su.entry.get q = some x ∧ x.port ≠ p) ∧
      t.ss =
        (if s.ss.holder = some p then
          { s.ss with holder := none, entries := [], dropped := s.ss.dropped.set p true }
        else s.ss) ∧
      t.liu = (if p = .panel then { s.liu with sim := none } else s.liu) ∧
      (p = .panel → s.liu.sim ≠ none → s.rl.nextSeq ≠ 0 → s.rl.nextSeq < 4294967000 → s.rl.log.length < 450 →
        ∃ x ∈ t.rl.log, s.rl.nextSeq ≤ x.seq ∧ x.body = .mode (.simExit .linkSilent)) ∧
      (s.pointsHeld → (t.point (match p with | .panel => 41 | .town => 42)).cond = true) ∧
      (p = .town ∨ s.liu.sim = none → t.be = s.be) ∧
      t = { s.withStation t with liu := t.liu, be := t.be, ss := t.ss, ports := t.ports }

/-- STORE_WRITE_COMPLETE (R167), SNAPSHOT_DUE (R168) and the validity of the image (R169), whose format version and
check value are free values (log 25). -/
def Obligations.StoreWrites : Prop :=
  let begun := fun (s : State) =>
    ({ items := s.ss.active, wear := s.wearSnapshot, version := Config.imageVersion, check := none } : Image)
  (∀ s : State, ∀ p, s.wearSnapshot.get p = (s.ch.get p).wear) ∧
  (∀ x : Image,
    (x.completed .written).valid = (x.version == Config.imageVersion && settingsSound x.items) ∧
    x.completed .written = { x with check := (x.completed .written).check } ∧
    x.completed .failed = { x with check := none } ∧ (x.completed .failed).valid = false ∧
    (x.check = none → x.valid = false) ∧
    (x.valid = true → x.version = Config.imageVersion ∧ settingsSound x.items = true)) ∧
  (∀ (s : State) (r : StoreResult), s.ss.store ≠ .idle →
    let done := { s.ss with store := .idle, fault := r == .failed, image := s.ss.image.completed r }
    ∃ t, exec (.storeWriteComplete r) s = .next t ∧
      t = { s with ss := t.ss, alarms := t.alarms, rl := t.rl } ∧
      t.ss =
        (if s.ss.snapshotDue then
          { done with
            store := .snapshot, snapshotDue := false
            image := begun s }
        else done) ∧
      (s.pointsHeld → (t.point 44).cond = (r == .failed)) ∧
      (∀ p n, s.ss.store = .commit p n → s.rl.nextSeq ≠ 0 → s.rl.nextSeq ≠ 4294967295 → s.rl.log.length < 478 →
        ∃ later, t.rl.log = s.rl.log ++
          ⟨s.rl.nextSeq, false, s.clockTime, s.uptime / 1000, .settingsApplied p n r⟩ :: later)) ∧
  (∀ s : State, s.ss.nextSnapshot ≤ s.uptime →
    exec .snapshotDue s = .next
      { s with ss :=
        if s.ss.store = .idle then
          { s.ss with
            nextSnapshot := s.ss.nextSnapshot + 14400000, store := .snapshot
            image := begun s }
        else { s.ss with nextSnapshot := s.ss.nextSnapshot + 14400000, snapshotDue := true } })

/-- The reply frame byte by byte (R147, R174, Tables 11-2 and 11-4). READ_REPLY (R147), MALFORMED_FRAME and
UNKNOWN_REQUEST (R145, R146, R148, R151): what each leaves at its port, and nothing elsewhere. A read returns what it
clocks (log 13: the bytes as the model keeps them). The code and tag 0 recorded for a frame too short to hold them are
the model's choice (log 45). -/
def Obligations.PortTransactions : Prop :=
  let away := fun (s : State) (p : Port) (tc : Option (Byte × Byte)) (x : Reason) =>
    let c := s.ports.get p
    let tag := (tc.getD (0, 0)).1
    let code := (tc.getD (0, 0)).2
    let d :=
      { c with
        buffer :=
          .ready
            { tag := tag
              code := code
              refusal := some (x, none)
              uptime := s.uptime
              overwritten := c.buffer.unread
              firstSinceReset := c.firstReply
              afterSilence := c.afterSilence
              gap := false
              tagAbsent := tc.isNone
              payload := [] }
        firstReply := false
        lastRefusal := some ⟨code, tag, x, none, s.uptime⟩
        refusals := min 255 (c.refusals + 1) }
    { s with ports := s.ports.set p d }
  (∀ (s : State) (p : Port) (n : Nat),
    let c := s.ports.get p
    let d :=
      match c.buffer with
      | .ready r => { c with clockedOut := (r.bytes false).take n, buffer := if n = 0 then .ready r else .taken r }
      | .taken r => { c with clockedOut := (r.bytes true).take n }
      | .empty => { c with clockedOut := (noReply s.uptime).take n }
    exec (.readReply p n) s = .next { s with ports := s.ports.set p d }) ∧
  (∀ (r : Reply) (again : Bool) (now : Nat),
    let bit := fun (v : Bool) (k : Nat) => if v then 2 ^ k else 0
    let frame := fun (tag code : Byte) (outcome : Nat) (reason detail uptime flags : Nat) (payload : List Byte) =>
      let body := [tag, code, BitVec.ofNat 8 outcome, BitVec.ofNat 8 reason] ++ beBytes 2 detail ++
        beBytes 6 uptime ++ [BitVec.ofNat 8 flags] ++ payload
      let sent := beBytes 2 (body.length + 4) ++ body
      sent ++ beBytes 2 (crc sent).toNat
    r.bytes again =
      frame r.tag r.code (if r.refusal.isSome then 1 else 0) (match r.refusal with | some (x, _) => x.code | none => 0)
        (match r.refusal with | some (_, some d) => d | _ => 0) r.uptime
        (bit r.overwritten 0 + bit again 1 + bit r.firstSinceReset 2 + bit r.afterSilence 3 + bit r.gap 4 +
          bit r.tagAbsent 5) r.payload ∧
    noReply now = frame 0 0 2 0 0 now 32 []) ∧
  [Reason.unknownRequest, .malformed, .notOnThisPort, .outOfRange, .noSuchPump, .selectorNotAuto, .pumpLocked,
    .tripPresent, .screenNotLocked, .simActive, .simConditions, .notInSim, .noSuchItem, .stagingHeld, .notHolder,
    .nothingStaged, .inconsistent, .storeBusy].map Reason.code = (List.range 18).map (· + 1) ∧
  (∀ (s : State) (p : Port) (dir : Byte) (bytes : List Byte) (tc : Option (Byte × Byte)),
    (dir = 0x5A ∧ classifyFrame p bytes = .malformed tc) ∨ (dir ≠ 0x5A ∧ dir ≠ 0xA5 ∧ tc = tagCodeOf bytes) →
      exec (.malformedFrame p dir bytes) s = .next (away s p tc .malformed)) ∧
  (∀ (s : State) (p : Port) (tag code : Byte), paramLength code.toNat = none →
    exec (.unknownRequest p tag code) s = .next (away s p (some (tag, code)) .unknownRequest))

/-- R146 to R151, R156, R158: every request leaves a reply with its tag and code in the buffer, marked by what the port
held before, and a request that its port may not make is refused with nothing else done. A link that comes back from
SILENT makes its point's condition false. -/
def Obligations.RequestReply : Prop :=
  ∀ (i : Instr) (s : State) (p : Port) (tag : Byte) (code : Nat) (ps : List Byte),
    requestBody i = some (p, tag, code, ps) →
    let c := s.ports.get p
    let barred := match p with
      | .panel => code = 0x52 ∨ code = 0x53
      | .town => code = 0x11 ∨ code = 0x12 ∨ code = 0x13 ∨ code = 0x31 ∨ code = 0x51
    ∃ t r, exec i s = .next t ∧ (t.ports.get p).buffer = .ready r ∧
      r.tag = tag ∧ r.code = BitVec.ofNat 8 code ∧ r.uptime = s.uptime ∧ r.tagAbsent = false ∧
      r.overwritten = c.buffer.unread ∧ r.firstSinceReset = c.firstReply ∧
      r.afterSilence = (c.afterSilence || c.link == .silent) ∧
      (t.ports.get p).firstReply = false ∧ (t.ports.get p).afterSilence = false ∧
      (t.ports.get p).lastReq = some s.uptime ∧
      (∀ x d, r.refusal = some (x, d) →
        r.payload = [] ∧ (t.ports.get p).lastRefusal = some ⟨BitVec.ofNat 8 code, tag, x, d, s.uptime⟩ ∧
        (t.ports.get p).refusals = min 255 (c.refusals + 1)) ∧
      (r.refusal = none → (t.ports.get p).lastRefusal = c.lastRefusal ∧
        (code ≠ 0x03 → (t.ports.get p).refusals = c.refusals)) ∧
      (code ≠ 0x62 → (t.ports.get p).link = .live ∧
        (t.ports.get p).linkTimer =
          some (s.uptime + (match p with | .panel => s.item 52 | .town => s.item 53) * 1000) ∧
        ∀ q, q ≠ p → t.ports.get q = s.ports.get q) ∧
      (code ≠ 0x62 → c.link = .silent → s.pointsHeld →
        (t.point (match p with | .panel => 41 | .town => 42)).cond = false) ∧
      (let d :=
        { c with
          link := .live, lastReq := some s.uptime, afterSilence := c.afterSilence || c.link == .silent
          linkTimer := some (s.uptime + (match p with | .panel => s.item 52 | .town => s.item 53) * 1000) }
      let h := s.hear p
      (c.link ≠ .silent → h = { s with ports := s.ports.set p d }) ∧
      (c.link = .silent → h = { s with ports := s.ports.set p d, alarms := h.alarms, rl := h.rl } ∧
        (s.pointsHeld → (h.point (match p with | .panel => 41 | .town => 42)).cond = false))) ∧
      (barred → r.refusal = some (.notOnThisPort, none) ∧ t = { s.hear p with ports := t.ports }) ∧
      (r.refusal = some (.notOnThisPort, none) → barred)

/-! ### Reads and settings of the ports -/

/-- READ_IDENTITY (R155), READ_STATUS (R154), READ_REFUSAL (R152), SET_ATTENTION (R153, R128) and READ_INPUTS (R11).
The silicon revision is a free value (log 10). In the status bytes three things are the model's choice: section 9 sends
the clock that is held while it is invalid (log 14), a FAILED channel without a level sends both marks (log 35), and
times are cut to whole seconds (log 11). -/
def Obligations.PortRequests : Prop :=
  let byte : Nat → Byte := fun n => BitVec.ofNat 8 n
  let flag := fun (v : Bool) => if v then (1 : Byte) else 0
  let opt : Nat → Option Nat → List Byte := fun n x => match x with
    | some v => (1 : Byte) :: beBytes n v
    | none => (0 : Byte) :: List.replicate n 0
  let sections : State → Nat → List Byte := fun s sect =>
    let left : Option Nat → Nat := fun x => match x with
      | some e => (e - s.uptime) / 1000
      | none => 0
    let pumps := fun (l : List Pump) => (List.range 6).map fun i => byte ((l[i]?.map Pump.num).getD 0)
    let bits := fun (l : List Pump) =>
      byte ((Pump.all.map fun (p : Pump) => if l.contains p then 2 ^ (p.num - 1) else 0).sum)
    let level := fun (c : LevelChan) =>
      [byte c.state.code] ++ opt 2 c.level ++
        [match c.state with | .suspect => 1 | .failed => 3 | _ => 0] ++ beBytes 2 c.raw.toNat
    match sect with
    | 1 =>
      level s.liu.chan.well ++ level s.liu.chan.inlet ++ opt 2 s.liu.diff ++
        [flag s.liu.levelDisagree, flag s.liu.sim.isSome] ++ opt 2 (s.liu.sim.map Session.well) ++
        opt 2 (s.liu.sim.map Session.inlet) ++ beBytes 2 (left (s.liu.sim.map fun (u : Session) => u.start + 1800000))
    | 2 =>
      opt 2 (if s.liu.sim.isSome then none else s.be.estimate) ++ beBytes 4 s.be.lastP ++ beBytes 4 s.be.lastW ++
        [flag s.be.lastValid, byte s.be.ticks] ++ beBytes 4 s.be.preSpill ++ opt 4 s.be.sum.startTime ++
        beBytes 4 ((s.uptime - s.be.sum.startUp) / 1000) ++ beBytes 4 s.be.sum.pumped ++ beBytes 4 s.be.sum.spilled ++
        opt 2 s.be.sum.highest ++ beBytes 4 s.be.sum.sumIT ++ beBytes 2 s.be.sum.sumT
    | 3 =>
      [byte ((List.range 6).map fun i => if s.su.flags.getD i false then 2 ^ i else 0).sum,
        byte s.su.dLevel, flag s.su.rise, byte s.su.d, flag s.su.fallback, byte s.su.lf] ++ opt 2 s.su.level ++
        [flag s.su.fresh, byte s.sa.limit, bits s.su.target] ++ pumps s.su.roster ++
        (Pump.all.map fun p => byte (s.su.posted.get p).code) ++
        (Pump.all.flatMap fun p => match s.su.entry.get p with
          | some e =>
            [1, match e.port with | .panel => 1 | .town => 2, match e.act with | .run => 0 | .stop => 1] ++
              beBytes 2 ((e.expiry - s.uptime) / 1000)
          | none => [0, 0, 0, 0, 0]) ++
        opt 4 (s.su.dutyStart.map fun u => u / 1000) ++ [flag s.su.deferredRot] ++
        (match s.su.handover with
          | some h => [1, bits h.outgoing, bits h.incoming] ++ beBytes 4 (h.start / 1000)
          | none => [0, 0, 0, 0, 0, 0, 0])
    | 4 =>
      Pump.all.flatMap fun p =>
        let c := s.ch.get p
        [byte c.state.code, byte c.source.code, flag c.standing, flag c.deferred] ++ beBytes 2 (left c.rest) ++
          [byte c.cause.code, flag c.gated, flag c.pendingSet.isSome] ++ beBytes 4 c.wear.runSeconds ++
          beBytes 4 c.wear.starts
    | 5 =>
      [match s.sa.holder with | .none => 0 | .pump p => byte p.num | .rake => 7] ++
        beBytes 2 (match s.sa.staggerOn, s.sa.lastRelease with
          | true, some r => r + s.item 31 * 1000 - s.uptime
          | _, _ => 0) ++
        [byte s.sa.queue.length] ++ pumps s.sa.queue ++ [byte s.sa.waiters.length] ++ pumps s.sa.waiters ++
        [byte s.sa.hist.length] ++
        ((List.range 8).flatMap fun i => match s.sa.hist[i]? with
          | some (u, p) => beBytes 4 (u / 1000) ++ [byte p.num]
          | none => [0, 0, 0, 0, 0]) ++
        (Pump.all.flatMap fun p =>
          let l := s.sa.pumpHist.get p
          byte l.length :: (List.range 12).flatMap fun i => beBytes 4 (l.getD i 0 / 1000)) ++
        [byte s.sa.power.code, byte s.sa.limit] ++ beBytes 2 (left s.sa.hold)
    | 6 =>
      [byte s.rc.state.code, if s.rc.state = .waitPermit then byte s.rc.purpose.code else 0, byte s.rc.owed,
        flag s.rc.forced, byte s.rc.retry, byte s.rc.cause.code,
        byte ((if s.cg.rake.firstOn then 1 else 0) + (if s.cg.rake.secondOn then 2 else 0) +
          if s.rc.state = .discharge then 4 else 0)] ++
        opt 2 (s.rc.interval.map fun e => (e - s.uptime) / 1000) ++ [flag s.rc.blindTimer.isSome, flag s.rc.blinded]
    | 7 =>
      [byte s.om.state.code] ++
        opt 2 ((match s.om.openTimer with | some e => some e | none => s.om.closeTimer).map fun e =>
          (e - s.uptime) / 1000) ++
        beBytes 2 s.om.nextNum ++
        (match s.om.event with
          | some v =>
            (1 : Byte) :: (beBytes 2 v.num ++ beBytes 4 (v.startUp / 1000) ++ opt 4 v.startTime ++ opt 2 v.openLevel ++
              opt 2 v.peak ++ beBytes 4 v.spill ++ beBytes 4 v.unmeasured ++ beBytes 4 v.elapsed ++ opt 4 v.lastTime)
          | none => List.replicate 35 0)
    | 9 =>
      beBytes 2 s.rl.log.length ++ opt 4 (s.rl.log.head?.map LogRec.seq) ++ opt 4 (s.rl.log.getLast?.map LogRec.seq) ++
        beBytes 4 s.rl.nextSeq ++ beBytes 4 s.rl.cursor ++ [flag s.rl.full] ++ beBytes 4 s.rl.clock ++
        [flag s.rl.clockValid]
    | 10 =>
      let port := fun (p : Port) =>
        let c := s.ports.get p
        [byte c.link.code] ++ opt 4 (c.lastReq.map fun u => (s.uptime - u) / 1000) ++
          [byte c.threshold, byte c.refusals, flag (s.alarms.line.get p)]
      port .panel ++ port .town ++
        [match s.ss.holder with | none => 0 | some .panel => 1 | some .town => 2, byte s.ss.entries.length,
          byte s.ss.store.code]
    | _ => []
  (∀ (s : State) (p : Port) (tag : Byte), ∃ t, exec (.readIdentity p tag) s = .next t ∧
    t = { s.hear p with ports := t.ports } ∧
    t.accepted p tag 0x01
      ([0x49, 0x56, 0x57, 0x01, 0x96, Config.siliconRevision, 0x01, match p with | .panel => 1 | .town => 2,
        match s.resetKind with | .warm => 0 | .cold => 1, match s.resetCause with | .power => 0 | .pin => 1] ++
        beBytes 4 (s.uptime / 1000) ++ [if s.ss.defaults then 1 else 0])) ∧
  (∀ (s : State) (p : Port) (tag sect : Byte), ∃ t, exec (.readStatus p tag sect) s = .next t ∧
    t = { s.hear p with ports := t.ports } ∧
    (1 ≤ sect.toNat → sect.toNat ≤ 10 →
      ∃ b, t.accepted p tag 0x02 (sect :: b) ∧
        b.length + 1 = [28, 44, 68, 103, 357, 13, 42, 47, 27, 22].getD (sect.toNat - 1) 0 ∧
        (sect = 8 → ∀ n, 1 ≤ n → n ≤ 46 →
          b.getD (n - 1) 0 = BitVec.ofNat 8
            ((match (t.point n).state with
              | .normal => 0
              | .activeUnack => 1
              | .activeAck => 2
              | .clearedUnack => 3) + if (t.point n).cond then 4 else 0)) ∧
        (sect ≠ 8 → b = sections (s.hear p) sect.toNat)) ∧
    (sect.toNat = 0 ∨ 10 < sect.toNat → t.refused p tag 0x02 .outOfRange (some sect.toNat))) ∧
  (∀ (s : State) (p : Port) (tag : Byte), ∃ t, exec (.readRefusal p tag) s = .next t ∧
    t = { s.hear p with ports := t.ports } ∧ (t.ports.get p).refusals = 0 ∧
    (t.ports.get p).lastRefusal = (s.ports.get p).lastRefusal ∧
    t.accepted p tag 0x03
      ((match (s.ports.get p).lastRefusal with
        | some x =>
          [1, x.code, x.tag, BitVec.ofNat 8 x.reason.code] ++ beBytes 2 (x.detail.getD 0) ++ beBytes 6 x.uptime
        | none => List.replicate 12 0) ++ [BitVec.ofNat 8 (s.ports.get p).refusals])) ∧
  (∀ (s : State) (p : Port) (tag v : Byte), ∃ t, exec (.setAttention p tag v) s = .next t ∧
    (1 ≤ v.toNat → v.toNat ≤ 3 →
      (t.ports.get p).threshold = v.toNat ∧ t.alarms.line.get p = t.lineOf p ∧ t.accepted p tag 0x04 [v] ∧
      t.alarms.points = (s.hear p).alarms.points ∧
      t = { s.hear p with alarms := t.alarms, ports := t.ports }) ∧
    (v.toNat = 0 ∨ 3 < v.toNat →
      (t.ports.get p).threshold = (s.ports.get p).threshold ∧ t.refused p tag 0x04 .outOfRange (some v.toNat) ∧
      t = { s.hear p with ports := t.ports })) ∧
  (∀ (s : State) (p : Port) (tag : Byte), ∃ t, exec (.readInputs p tag) s = .next t ∧
    t = { s.hear p with liu := { s.liu with flags := s.liu.flags.set p 0#40 }, ports := t.ports } ∧
    t.accepted p tag 0x10
      (((List.range 5).map fun j => BitVec.ofNat 8 (s.liu.deb.toNat >>> (8 * j))) ++
        (List.range 5).map fun j => BitVec.ofNat 8 ((s.liu.flags.get p).toNat >>> (8 * j))))

/-! ### Requests to the pumps and the rake -/

/-- PUMP_MANUAL (R43) and PUMP_RELEASE (R44). -/
def Obligations.ManualOrders : Prop :=
  let entered := fun (s t : State) (p : Port) => t = { s.withStation t with ports := t.ports } ∧
    (t.ports.get p).link = .live
  (∀ (s : State) (p : Port) (tag n : Byte) (act : Action) (lease : BitVec 16) (q : Pump), n.toNat = q.num →
    s.present q = true → s.input (pumpInput q 1) = true → s.input (pumpInput q 0) = false →
    ¬(act = .run ∧ (s.ch.get q).state = .lockedOut) →
    let l := min 3600 (max 10 lease.toNat)
    ∃ t e, exec (.pumpManual p tag n act lease) s = .next t ∧
      t.su.entry = s.su.entry.set q (some e) ∧ e.port = p ∧ e.act = act ∧ e.expiry = s.uptime + l * 1000 ∧
      (t.ch.get q).source = .manual ∧
      t.accepted p tag 0x20 ([n, match act with | .run => 0 | .stop => 1] ++ beBytes 2 l) ∧ entered s t p) ∧
  (∀ (s : State) (p : Port) (tag n : Byte) (act : Action) (lease : BitVec 16),
    ∃ t, exec (.pumpManual p tag n act lease) s = .next t ∧
      ((∀ q, n.toNat = q.num → s.present q = false) →
        t.refused p tag 0x20 .noSuchPump (some n.toNat) ∧ t = { s.hear p with ports := t.ports }) ∧
      (∀ q, n.toNat = q.num → s.present q = true →
        s.input (pumpInput q 1) = false ∨ s.input (pumpInput q 0) = true →
        t.refused p tag 0x20 .selectorNotAuto (some n.toNat) ∧ t = { s.hear p with ports := t.ports }) ∧
      (∀ q, n.toNat = q.num → s.present q = true → s.input (pumpInput q 1) = true →
        s.input (pumpInput q 0) = false → act = .run → (s.ch.get q).state = .lockedOut →
        t.refused p tag 0x20 .pumpLocked (some n.toNat) ∧ t = { s.hear p with ports := t.ports })) ∧
  (∀ (s : State) (p : Port) (tag n : Byte), ∃ t, exec (.pumpRelease p tag n) s = .next t ∧
    ((∀ q, n.toNat = q.num → s.present q = false) →
      t.refused p tag 0x21 .noSuchPump (some n.toNat) ∧ t = { s.hear p with ports := t.ports }) ∧
    (∀ q, n.toNat = q.num → s.present q = true →
      t.su.entry = s.su.entry.set q none ∧
      t.accepted p tag 0x21 [n, if (s.su.entry.get q).isSome then 1 else 0] ∧ entered s t p ∧
      (∀ r, r ≠ q → (t.ch.get r).source = (s.ch.get r).source) ∧
      ((s.su.entry.get q).isSome = true →
        (t.ch.get q).source =
          match s.input (pumpInput q 0), s.input (pumpInput q 1) with
          | true, false => .hand
          | false, true => .auto
          | _, _ => .off)))

/-- RESET_LOCKOUT (R68) and RESET_SCREEN (R108). `m` is the state before the event ends, in which the permit is
offered; the state in the reply is that after the event (log 19). -/
def Obligations.LockoutResets : Prop :=
  (∀ (s : State) (p : Port) (tag n : Byte) (q : Pump), s.queuesRight → n.toNat = q.num → s.present q = true →
    s.input (pumpInput q 3) = false → (s.ch.get q).state = .lockedOut →
    ∃ t, exec (.resetLockout p tag n) s = .next t ∧
      (t.ch.get q).cause = .none ∧ (t.ch.get q).state ≠ .lockedOut ∧
      (s.input (pumpInput q 2) = true → (t.ch.get q).state = .stopping ∧
        (t.ch.get q).fbDeadline = (if s.sa.power = .dead then none else some (s.uptime + s.item 29 * 1000))) ∧
      (s.input (pumpInput q 2) = false → (s.ch.get q).source = .off → (t.ch.get q).state = .unavailable) ∧
      (s.pointsHeld → ∀ k, causePoint q (s.ch.get q).cause = some k → (t.point k).cond = false) ∧
      t.accepted p tag 0x22 [n, BitVec.ofNat 8 (t.ch.get q).state.code] ∧
      t = { s.withStation t with ports := t.ports }) ∧
  (∀ (s : State) (p : Port) (tag n : Byte), ∃ t, exec (.resetLockout p tag n) s = .next t ∧
    ((∀ q, n.toNat = q.num → s.present q = false) →
      t.refused p tag 0x22 .noSuchPump (some n.toNat) ∧ t = { s.hear p with ports := t.ports }) ∧
    (∀ q, n.toNat = q.num → s.present q = true → s.input (pumpInput q 3) = true →
      t.refused p tag 0x22 .tripPresent (some n.toNat) ∧ t = { s.hear p with ports := t.ports }) ∧
    (∀ q, n.toNat = q.num → s.present q = true → s.input (pumpInput q 3) = false →
      (s.ch.get q).state ≠ .lockedOut →
      t.accepted p tag 0x22 [n, BitVec.ofNat 8 (s.ch.get q).state.code] ∧ t = { s.hear p with ports := t.ports })) ∧
  (∀ (s : State) (tag : Byte), s.rc.state = .locked →
    let h := s.hear .panel
    ∃ m t, exec (.resetScreen .panel tag) s = .next t ∧ t = { h.finish m with ports := t.ports } ∧
      m.rc =
        (if s.screenAuto = false then { s.rc with state := .off, retry := 0, cause := .none }
        else if s.rakeTop = false then
          { s.rc with state := .waitPermit, purpose := .home, retry := 0, cause := .none }
        else if s.rc.owed = 0 then { s.rc with state := .parked, cause := .none }
        else { s.rc with state := .waitPermit, purpose := .cycle, retry := 0, cause := .none }) ∧
      (m.rc.state = .waitPermit → m.work.offer = true) ∧
      (s.pointsHeld → ∀ k, lockPoint s.rc.cause = some k → (m.point k).cond = false) ∧
      m = { h with rc := m.rc, alarms := m.alarms, rl := m.rl, work := m.work } ∧
      t.rc.owed = s.rc.owed ∧ t.accepted .panel tag 0x31 [BitVec.ofNat 8 t.rc.state.code] ∧
      t = { s.withStation t with ports := t.ports }) ∧
  (∀ (s : State) (tag : Byte), s.rc.state ≠ .locked →
    ∃ t, exec (.resetScreen .panel tag) s = .next t ∧ t.refused .panel tag 0x31 .screenNotLocked none ∧
      t = { s.hear .panel with ports := t.ports })

/-! ### Alarms -/

/-- R127: the point the port is shown is the first of its unseen points, by priority and then by number, with their
count; no flag is cleared. `l` is that order, whatever way it is found. -/
def Obligations.AttentionRead : Prop :=
  ∀ (s : State) (p : Port) (tag : Byte) (l : List Nat), s.settingsRight →
    let h := s.hear p
    (∀ n, n ∈ l ↔ 1 ≤ n ∧ n ≤ 46 ∧ (h.point n).unseen.get p = true) →
    l.Pairwise (fun a b => h.priority a < h.priority b ∨ (h.priority a = h.priority b ∧ a < b)) →
    ∃ t, exec (.readAttention p tag) s = .next t ∧ t = { h with ports := t.ports } ∧
      t.accepted p tag 0x41
        (BitVec.ofNat 8 l.length ::
          match l with
          | n :: _ => 1 :: h.alarmEntry n
          | [] => List.replicate 16 0)

/-- The alarm entry (Table 11-6). READ_ALARMS (R126) and ACK_ALARM (R124, R125), the latter with room in the log. -/
def Obligations.AlarmsReadAndAcked : Prop :=
  (∀ (s : State) (n : Nat),
    let a := s.point n
    let opt := fun (x : Option Nat) => match x with
      | some v => 1 :: beBytes 4 v
      | none => [0, 0, 0, 0, 0]
    s.alarmEntry n =
      [BitVec.ofNat 8 n, BitVec.ofNat 8 (s.priority n),
        (match a.state with | .normal => 0 | .activeUnack => 1 | .activeAck => 2 | .clearedUnack => 3),
        if a.cond then 1 else 0] ++ opt a.firstTime ++ opt a.lastTime ++ [BitVec.ofNat 8 a.count]) ∧
  (∀ (s : State) (p : Port) (tag : Byte) (l : List Nat), s.settingsRight → s.pointsHeld →
    let h := s.hear p
    (∀ n, n ∈ l ↔ 1 ≤ n ∧ n ≤ 46 ∧ (h.point n).unseen.get p = true) →
    l.Pairwise (fun a b => h.priority a < h.priority b ∨ (h.priority a = h.priority b ∧ a < b)) →
    ∃ t, exec (.readAlarms p tag) s = .next t ∧
      t.accepted p tag 0x40
        ([BitVec.ofNat 8 (l.length - 16), BitVec.ofNat 8 (min 16 l.length)] ++ (l.take 16).flatMap h.alarmEntry) ∧
      (∀ n, 1 ≤ n → n ≤ 46 →
        t.point n =
          if n ∈ l.take 16 then { h.point n with unseen := (h.point n).unseen.set p false } else h.point n) ∧
      t.alarms.line.get p = t.lineOf p ∧ t = { h with alarms := t.alarms, ports := t.ports }) ∧
  (∀ (s : State) (p : Port) (tag n : Byte), s.pointsHeld → n.toNat ≤ 46 → s.rl.full = false →
    s.rl.log.length < 380 → s.rl.nextSeq ≠ 0 → s.rl.nextSeq < 4294967000 →
    let h := s.hear p
    let ks := (if n = 0 then (List.range 46).map (· + 1) else [n.toNat]).filter fun k =>
      (h.point k).state == .activeUnack || (h.point k).state == .clearedUnack
    ∃ t recs, exec (.ackAlarm p tag n) s = .next t ∧ t.accepted p tag 0x42 [BitVec.ofNat 8 ks.length] ∧
      (∀ k, 1 ≤ k → k ≤ 46 →
        t.point k =
          if k ∈ ks then
            { h.point k with
              state := if (h.point k).state = .activeUnack then .activeAck else .normal
              lastTime := s.clockTime, unseen := ⟨true, true⟩ }
          else h.point k) ∧
      t.rl.log = h.rl.log ++ recs ∧
      recs.map LogRec.body =
        (ks.flatMap fun k => [.alarmChange k (t.point k).state (t.point k).count, .alarmAck k p]) ∧
      t = { h with alarms := t.alarms, rl := t.rl, ports := t.ports }) ∧
  (∀ (s : State) (p : Port) (tag n : Byte), 46 < n.toNat →
    ∃ t, exec (.ackAlarm p tag n) s = .next t ∧ t.refused p tag 0x42 .outOfRange (some n.toNat) ∧
      t = { s.hear p with ports := t.ports })

/-! ### The log -/

/-- The bytes of a record (Tables 11-7 and 11-8, R175). READ_LOG (R137 for the town, R139 for the panel), RELEASE_LOG
(R138) and SET_CLOCK (R142). The number held in the reply to a release is the one right after the removal (log 33). The
cursor after the last sequence number, and its comparisons while the next one is 0, are the model's choices (logs 43
and 44). -/
def Obligations.LogRequests : Prop :=
  let count := fun (n : Byte) => if n = 0 ∨ 8 < n.toNat then 8 else n.toNat
  let page := fun (h : State) (cursor : Nat) (rs : List LogRec) =>
    beBytes 2 h.rl.log.length ++ beBytes 4 h.rl.nextSeq ++ beBytes 4 cursor ++ [BitVec.ofNat 8 rs.length] ++
      rs.flatMap LogRec.bytes
  (∀ r : LogRec,
    let byte := fun (n : Nat) => BitVec.ofNat 8 n
    let opt := fun (n : Nat) (x : Option Nat) => match x with
      | some v => (1 : Byte) :: beBytes n v
      | none => (0 : Byte) :: List.replicate n 0
    let port := fun (p : Port) => match p with
      | .panel => (1 : Byte)
      | .town => 2
    let kind : Byte × List Byte := match r.body with
      | .restart k c =>
        (0, [match k with | .warm => 0 | .cold => 1, match c with | .power => 0 | .pin => 1])
      | .clockSet old new => (1, opt 4 old ++ beBytes 4 new)
      | .overflowOpen n l => (2, beBytes 2 n ++ opt 2 l)
      | .overflowClose n e d q pk u w =>
        (3, beBytes 2 n ++ opt 4 e ++ beBytes 4 d ++ beBytes 4 q ++ opt 2 pk ++ beBytes 4 u ++
          [match w with | .normal => 0 | .interrupted => 1])
      | .alarmChange n st c =>
        (4, [byte n, match st with | .normal => 0 | .activeUnack => 1 | .activeAck => 2 | .clearedUnack => 3, byte c])
      | .alarmAck n p => (5, [byte n, port p])
      | .summary st d al pu sp hi me va =>
        (6, opt 4 st ++ beBytes 4 d ++ [if al then 1 else 0] ++ beBytes 4 pu ++ beBytes 4 sp ++ opt 2 hi ++ opt 2 me ++
          beBytes 2 va)
      | .mode m =>
        (7, match m with
          | .fallbackEnterWell => [0, 0, 0]
          | .fallbackEnterDisagree => [1, 0, 0]
          | .fallbackExit => [2, 0, 0]
          | .simEnter => [3, 0, 0]
          | .simExit x => [4, byte x.code, 0]
          | .power x y => [5, byte x.code, byte y.code])
      | .settingsApplied p n x => (8, [port p, byte n, match x with | .written => 0 | .failed => 1])
    r.bytes =
      beBytes 4 r.seq ++ [kind.1, if r.classA then 0 else 1] ++ opt 4 r.time ++ beBytes 4 r.up ++
        [byte kind.2.length] ++ kind.2) ∧
  [ExitReason.panelExit, .linkSilent, .highFloat, .realLevel, .timeLimit].map ExitReason.code = [0, 1, 2, 3, 4] ∧
  [Power.mains, .generator, .dead].map Power.code = [0, 1, 2] ∧
  (∀ (s : State) (tag n : Byte),
    let h := s.hear .town
    ∃ t, exec (.readLog .town tag n) s = .next t ∧ t = { h with ports := t.ports } ∧
      t.accepted .town tag 0x50 (page h 0 (h.rl.log.take (count n)))) ∧
  (∀ (s : State) (tag n : Byte),
    let h := s.hear .panel
    let from_ := fun (x : Nat) => (h.rl.log.filter fun r => decide (x ≤ r.seq)).take (count n)
    ∃ t r, exec (.readLog .panel tag n) s = .next t ∧ (t.ports.get .panel).buffer = .ready r ∧ r.refusal = none ∧
      t = { h with rl := { h.rl with cursor := t.rl.cursor }, ports := t.ports } ∧
      ((∃ x ∈ h.rl.log, x.seq = h.rl.cursor) →
        r.gap = false ∧ r.payload = page h t.rl.cursor (from_ h.rl.cursor)) ∧
      ((∀ x ∈ h.rl.log, x.seq ≠ h.rl.cursor) → h.rl.cursor < h.rl.nextSeq →
        r.gap = true ∧ r.payload = page h t.rl.cursor (from_ (h.rl.cursor + 1)) ∧
        (from_ (h.rl.cursor + 1) = [] → t.rl.cursor = h.rl.nextSeq)) ∧
      ((∀ x ∈ h.rl.log, x.seq ≠ h.rl.cursor) → h.rl.nextSeq ≤ h.rl.cursor →
        r.gap = false ∧ r.payload = page h h.rl.cursor [] ∧ t.rl.cursor = h.rl.cursor) ∧
      (∀ a x, (∃ y ∈ h.rl.log, y.seq = h.rl.cursor) ∨ h.rl.cursor < h.rl.nextSeq →
        from_ h.rl.cursor = a ++ [x] → x.seq ≠ 4294967295 → t.rl.cursor = x.seq + 1)) ∧
  (∀ (s : State) (tag : Byte) (n : BitVec 32),
    let h := s.hear .town
    let kept := h.rl.log.filter fun r => decide (n.toNat < r.seq)
    ∃ t, exec (.releaseLog .town tag n) s = .next t ∧
      t.accepted .town tag 0x52 (beBytes 2 (h.rl.log.length - kept.length) ++ beBytes 2 kept.length) ∧
      (h.rl.nextSeq ≠ 0 → t.rl.cursor = h.rl.cursor) ∧
      (h.rl.full = false ∨ 448 ≤ kept.length → t.rl = { h.rl with log := kept }) ∧
      (h.rl.full = true → kept.length < 448 →
        t.rl.full = false ∧ (s.pointsHeld → (t.point 43).cond = false) ∧
        (h.rl.nextSeq ≠ 0 → ∃ later, t.rl.log = kept ++ later)) ∧
      t = { h with alarms := t.alarms, rl := t.rl, ports := t.ports }) ∧
  (∀ (s : State) (tag : Byte) (n : BitVec 32),
    let h := s.hear .town
    ∃ t, exec (.setClock .town tag n) s = .next t ∧
      t.rl.clock = n.toNat ∧ t.rl.clockValid = true ∧ t.rl.nextAdvance = some (s.uptime + 1000) ∧
      (s.pointsHeld → (t.point 45).cond = false) ∧
      t.accepted .town tag 0x53
        ((if s.rl.clockValid then 1 :: beBytes 4 s.rl.clock else 0 :: beBytes 4 0) ++ beBytes 4 n.toNat) ∧
      (h.rl.nextSeq ≠ 0 → h.rl.nextSeq ≠ 4294967295 → h.rl.log.length < 478 →
        ∃ later, t.rl.log = h.rl.log ++
          ⟨h.rl.nextSeq, true, some n.toNat, s.uptime / 1000, .clockSet s.clockTime n.toNat⟩ :: later) ∧
      t = { h with alarms := t.alarms, rl := t.rl, ports := t.ports })

/-- R140: the cursor a seek from the panel sets, with the reply; a cursor whose record is not held gives GAP at the
next read; a seek from the town is refused. That the comparisons stand as they are where the next sequence number is 0
is the model's choice (log 44). -/
def Obligations.SeekLog : Prop :=
  (∀ (s : State) (tag : Byte) (n : BitVec 32),
    let h := s.hear .panel
    let c :=
      if n = 0 then (match h.rl.log with | x :: _ => x.seq | [] => h.rl.nextSeq)
      else if h.rl.nextSeq < n.toNat then h.rl.nextSeq
      else n.toNat
    ∃ t, exec (.seekLog .panel tag n) s = .next t ∧ t.accepted .panel tag 0x51 (beBytes 4 c) ∧
      t = { h with rl := { h.rl with cursor := c }, ports := t.ports } ∧
      ∀ tag' count, (∀ x ∈ h.rl.log, x.seq ≠ c) → c < h.rl.nextSeq →
        ∃ u r, exec (.readLog .panel tag' count) t = .next u ∧ (u.ports.get .panel).buffer = .ready r ∧ r.gap = true) ∧
  (∀ (s : State) (tag : Byte) (n : BitVec 32),
    ∃ t, exec (.seekLog .town tag n) s = .next t ∧ t.refused .town tag 0x51 .notOnThisPort none ∧
      t = { s.hear .town with ports := t.ports })

/-! ### The settings -/

/-- READ_SETTING (R161) and EDIT_SETTING (R162, R163), with its refusals in their order, over the catalogue of Tables
10-1 and 10-2 and the protected items, written out. -/
def Obligations.SettingsReadAndEdited : Prop :=
  -- Tables 10-1, 10-2, 3-1 and 7-1: the least value, the greatest value and the default of item `k`
  let row : Nat → Nat × Nat × Nat := fun k =>
    if k ≤ 53 then
      [
        (400, 1200, 683), (1000, 3412, 2730), (500, 20000, 10000), (400, 1200, 683), (1000, 3412, 2730),
        (500, 20000, 10000), (0, 20000, 800), (0, 20000, 4200), (0, 20000, 5000), (0, 20000, 4600),
        (0, 20000, 2500), (0, 20000, 3000), (0, 20000, 3500), (0, 20000, 4000), (0, 20000, 4400),
        (0, 20000, 4800), (0, 20000, 1200), (0, 20000, 1400), (0, 20000, 1600), (0, 20000, 1800),
        (0, 20000, 2000), (0, 20000, 2200), (50, 150, 100), (0, 20000, 2000), (0, 120, 10), (0, 24, 4),
        (1, 6, 3), (0, 6, 2), (1, 10, 3), (20, 500, 100), (2, 60, 10), (1, 8, 4), (60, 3600, 900), (0, 300, 20),
        (50, 2000, 150), (100, 3000, 400), (0, 240, 60), (5, 120, 40), (5, 120, 45), (1, 10, 3), (0, 120, 20),
        (0, 5, 3), (200, 5000, 600), (20, 500, 150), (1, 10, 2), (1000, 19000, 5200), (0, 500, 50),
        (5, 300, 30), (30, 1800, 120), (5, 60, 10), (5, 60, 15), (5, 600, 30), (5, 600, 120)
      ].getD (k - 1) (0, 0, 0)
    else if k ≤ 101 then
      [(0, 1, 0), (0, 1, 0), (1, 3000, 500), (0, 600, 60), (0, 600, 30), (1, 12, 6), (1, 20, 5), (2, 30, 8)].getD
        ((k - 54) % 8) (0, 0, 0)
    else if k ≤ 119 then
      let i := (k - 102) / 2
      if k % 2 = 0 then
        (if i = 8 then 20000 else 0, if i = 0 then 0 else 20000,
          [0, 1000, 2000, 3000, 4000, 5000, 6000, 8000, 20000].getD i 0)
      else (0, 16000000, [0, 40000, 90000, 150000, 220000, 300000, 390000, 590000, 1790000].getD i 0)
    else if k ≤ 137 then
      let i := (k - 120) / 2
      if k % 2 = 0 then
        (0, if i = 0 then 0 else 20000, [0, 50, 100, 200, 300, 400, 600, 1000, 14800].getD i 0)
      else (0, if i = 0 then 0 else 200000, [0, 40, 110, 320, 580, 900, 1650, 3550, 90000].getD i 0)
    else if k ≤ 183 then
      let p := k - 137
      (1, 3,
        if p ≤ 30 then (if p % 5 = 3 then 1 else if p % 5 = 0 then 3 else 2)
        else if p = 31 ∨ p = 32 ∨ p = 33 then 1
        else if p = 35 ∨ p = 41 ∨ p = 45 ∨ p = 46 then 3
        else 2)
    else
      let p := k - 183
      (0, if (p ≤ 30 ∧ p % 5 ≠ 0) ∨ p = 33 then 0 else 1, 0)
  factoryDefaults = ((List.range 229).map fun i => (row (i + 1)).2.2) ∧
  (∀ (s : State) (p : Port) (tag : Byte) (k : BitVec 16), ∃ t, exec (.readSetting p tag k) s = .next t ∧
    t = { s.hear p with ports := t.ports } ∧
    (1 ≤ k.toNat → k.toNat ≤ 229 →
      let g := row k.toNat
      t.accepted p tag 0x60
        (beBytes 2 k.toNat ++ beBytes 4 (s.item k.toNat) ++ beBytes 4 g.1 ++ beBytes 4 g.2.1 ++
          beBytes 4 g.2.2 ++ [match s.ss.holder with | none => (0 : Byte) | some .panel => 1 | some .town => 2] ++
          (match stagedValue s.ss.entries k.toNat with
            | some v => (1 : Byte) :: beBytes 4 v
            | none => (0 : Byte) :: beBytes 4 0))) ∧
    (k.toNat = 0 ∨ 229 < k.toNat → t.refused p tag 0x60 .noSuchItem (some k.toNat))) ∧
  (∀ (s : State) (p : Port) (tag : Byte) (k : BitVec 16) (v : BitVec 32),
    let named := 1 ≤ k.toNat ∧ k.toNat ≤ 229
    let free := s.ss.holder = none ∨ s.ss.holder = some p
    let inRange := (row k.toNat).1 ≤ v.toNat ∧ v.toNat ≤ (row k.toNat).2.1 ∧
      (k.toNat = 37 → v.toNat = 0 ∨ 5 ≤ v.toNat)
    let open_ := s.liu.sim = none ∨ ¬(k.toNat ≤ 6 ∨ k.toNat = 46 ∨ (102 ≤ k.toNat ∧ k.toNat ≤ 137))
    ∃ t, exec (.editSetting p tag k v) s = .next t ∧ t = { s.hear p with ss := t.ss, ports := t.ports } ∧
      (named → s.ss.store = .idle → free → inRange → open_ →
        t.ss =
          { s.ss with
            holder := some p, entries := stage k.toNat v.toNat s.ss.entries, dropped := s.ss.dropped.set p false } ∧
        (∀ j, stagedValue t.ss.entries j = if j = k.toNat then some v.toNat else stagedValue s.ss.entries j) ∧
        t.accepted p tag 0x61
          (beBytes 2 k.toNat ++ beBytes 4 v.toNat ++ beBytes 4 (s.item k.toNat) ++
            [BitVec.ofNat 8 t.ss.entries.length])) ∧
      (¬(named ∧ s.ss.store = .idle ∧ free ∧ inRange ∧ open_) → t.ss = s.ss) ∧
      (¬named → t.refused p tag 0x61 .noSuchItem (some k.toNat)) ∧
      (named → s.ss.store ≠ .idle → t.refused p tag 0x61 .storeBusy none) ∧
      (named → s.ss.store = .idle → ¬free → t.refused p tag 0x61 .stagingHeld none) ∧
      (named → s.ss.store = .idle → free → ¬inRange → t.refused p tag 0x61 .outOfRange (some k.toNat)) ∧
      (named → s.ss.store = .idle → free → inRange → ¬open_ →
        t.refused p tag 0x61 .simActive (some k.toNat)))

/-- COMMIT_SETTINGS (R165, R166) and DISCARD_SETTINGS (R164), with the refusals both share. R165, Table 10-3: the
checks of the proposed settings and the item each is charged to, written out; the item named is the lowest charged. The
wear snapshot in the image is the one before the offer of the commit event: the model's choice (log 54). -/
def Obligations.StagingEnded : Prop :=
  (∀ s : State,
    let v := fun k => itemOf (s.ss.entries.foldl (fun l e => l.set (e.1 - 1) e.2) s.ss.active) k
    let charged := fun k : Nat =>
      (11 ≤ k ∧ k ≤ 16 ∧ ¬v k > v (k + 6)) ∨ (12 ≤ k ∧ k ≤ 16 ∧ ¬v k ≥ v (k - 1)) ∨
      (18 ≤ k ∧ k ≤ 22 ∧ ¬v k ≥ v (k - 1)) ∨ (k = 11 ∧ ¬v 11 < v 46) ∨ (k = 8 ∧ ¬v 7 < v 8) ∨
      (k = 9 ∧ ¬v 8 < v 9) ∨ (k = 36 ∧ ¬v 36 > v 35) ∨
      (∃ i, 1 ≤ i ∧ i ≤ 8 ∧ k = 102 + 2 * i ∧ ¬v (102 + 2 * i) > v (102 + 2 * (i - 1))) ∨
      (∃ i, 1 ≤ i ∧ i ≤ 8 ∧ k = 103 + 2 * i ∧ ¬v (103 + 2 * i) ≥ v (103 + 2 * (i - 1))) ∨
      (∃ i, 1 ≤ i ∧ i ≤ 8 ∧ k = 120 + 2 * i ∧ ¬v (120 + 2 * i) > v (120 + 2 * (i - 1))) ∨
      (∃ i, 1 ≤ i ∧ i ≤ 8 ∧ k = 121 + 2 * i ∧ ¬v (121 + 2 * i) ≥ v (121 + 2 * (i - 1))) ∨
      (k = 136 ∧ ¬v 136 ≥ 20000 - v 46) ∨
      (s.liu.sim ≠ none ∧ ((1 ≤ k ∧ k ≤ 6) ∨ k = 46 ∨ (102 ≤ k ∧ k ≤ 137)) ∧
        ∃ x ∈ s.ss.entries, x.1 = k ∧ x.2 ≠ s.item k)
    (s.inconsistentItem = none ↔ ∀ k, ¬charged k) ∧
    (∀ k, s.inconsistentItem = some k ↔ charged k ∧ ∀ j, j < k → ¬charged j)) ∧
  (∀ (s : State) (p : Port) (tag : Byte), s.ss.store = .idle → s.ss.holder = some p →
    ∃ t, exec (.commitSettings p tag) s = .next t ∧
      (s.inconsistentItem = none →
        let n := (s.ss.entries.filter fun e => e.2 != s.item e.1).length
        t.ss.active = s.ss.entries.foldl (fun l e => l.set (e.1 - 1) e.2) s.ss.active ∧
        t.ss.holder = none ∧ t.ss.entries = [] ∧ t.ss.store = .commit p n ∧ t.ss.defaults = false ∧
        t.ss.image =
          { items := t.ss.active, wear := s.wearSnapshot, version := Config.imageVersion, check := none } ∧
        t.ss.marker = s.ss.marker ∧ t.ss.fault = s.ss.fault ∧
        t.accepted p tag 0x62 [BitVec.ofNat 8 n]) ∧
      (∀ k, s.inconsistentItem = some k →
        t.refused p tag 0x62 .inconsistent (some k) ∧
        t = { s.hear p with ss := { s.ss with dropped := s.ss.dropped.set p false }, ports := t.ports })) ∧
  (∀ (s : State) (p : Port) (tag : Byte), s.ss.store = .idle → s.ss.holder = some p →
    ∃ t, exec (.discardSettings p tag) s = .next t ∧
      t.accepted p tag 0x63 [BitVec.ofNat 8 s.ss.entries.length] ∧
      t = { s.hear p with
        ss := { s.ss with holder := none, entries := [], dropped := s.ss.dropped.set p false }, ports := t.ports }) ∧
  (∀ (s : State) (p : Port) (tag : Byte) (i : Instr) (code : Byte),
    (i = .commitSettings p tag ∧ code = 0x62) ∨ (i = .discardSettings p tag ∧ code = 0x63) →
    ¬(s.ss.store = .idle ∧ s.ss.holder = some p) →
    ∃ t, exec i s = .next t ∧
      t = { s.hear p with ss := { s.ss with dropped := s.ss.dropped.set p false }, ports := t.ports } ∧
      t.refused p tag code
        (if s.ss.store ≠ .idle then .storeBusy
        else if s.ss.holder ≠ none then .stagingHeld
        else if s.ss.dropped.get p then .notHolder
        else .nothingStaged) none)


/-- COMMIT_SETTINGS (R166, Table 10-4): an accepted commit at the blocks that use the items. `a` holds the staged
values as the active settings, `b` is what the blocks make of them, and the event then ends with the staging copy freed
and a store write begun. Calibration, floats and HIGH_LEVEL (R7, R8, R12), tables (R18), per-pump items (R76), the
Staging Unit (R54), block SA with the excess of a lowered limit (R90, R93), the guard's held requests (R77). The order
of the blocks and of the pumps within one (logs 28 and 53), a stagger that has ended staying ended (log 40) and the
wear snapshot before the offer of the event (log 54) are the model's. -/
def Obligations.CommitApplied : Prop :=
  ∀ (s : State) (p : Port) (tag : Byte), s.ss.store = .idle → s.ss.holder = some p → s.inconsistentItem = none →
    s.settingsRight → s.owedBound →
    let h := s.hear p
    let new := s.ss.entries.foldl (fun l e => l.set (e.1 - 1) e.2) s.ss.active
    let a : State := { h with ss := { h.ss with active := new, dropped := h.ss.dropped.set p false } }
    let b := a.applyCommit s.ss.active
    let n := (s.ss.entries.filter fun e => e.2 != s.item e.1).length
    let differs := fun k => s.item k ≠ a.item k
    -- no committed link timeout makes the panel's link fall silent, which would end a session
    let session := s.liu.sim = none ∨ ¬differs 52
    ∃ t, exec (.commitSettings p tag) s = .next t ∧
      (let ended := h.finish
        { b with
          ss :=
            { b.ss with
              holder := none, entries := [], defaults := false, store := .commit p n
              image := { items := new, wear := s.wearSnapshot, version := Config.imageVersion, check := none } } }
      t = { ended with ports := ended.ports.set p (t.ports.get p) }) ∧
      b.ss = a.ss ∧
      -- calibration, floats and HIGH_LEVEL
      (let c := s.well
      let apart := fun (made : Bool) (elevation l : Nat) =>
        if made then decide (l + 500 < elevation) else decide (elevation + 500 < l)
      let disagree := match c.state, c.level with
        | .good, some l =>
          apart s.lowMade (a.item 7) l || apart s.highMade (a.item 8) l || apart s.hhMade (a.item 9) l ||
            apart s.weirMade (a.item 46) l
        | _, _ => false
      let high := match c.state, c.level with
        | .good, some l => decide (a.item 10 ≤ l)
        | .suspect, _ => s.liu.highLevel
        | _, _ => false
      b.liu =
        { s.liu with
          chan :=
            { well := { s.liu.chan.well with cal := ⟨a.item 1, a.item 2, a.item 3⟩ }
              inlet := { s.liu.chan.inlet with cal := ⟨a.item 4, a.item 5, a.item 6⟩ } }
          highLevel := high
          disTimer :=
            if disagree = s.liu.levelDisagree then none
            else match s.liu.disTimer with
              | some e => some e
              | none => some (s.uptime + 10000)
          sim := b.liu.sim } ∧
      (session → b.liu.sim = s.liu.sim) ∧ (s.pointsHeld → (b.point 31).cond = high)) ∧
      -- tables
      ((differs 46 ∨ ∃ i ∈ List.range 36, differs (102 + i)) →
        b.be.vol = volumeTable new ∧ b.be.weir = weirTable new ∧ b.be.crest = a.item 46 ∧ b.be.valid = false) ∧
      (¬(differs 46 ∨ ∃ i ∈ List.range 36, differs (102 + i)) →
        b.be.vol = s.be.vol ∧ b.be.weir = s.be.weir ∧ b.be.crest = s.be.crest ∧ (session → b.be.valid = s.be.valid)) ∧
      b.be.t = s.be.t ∧
      -- per-pump items
      (∀ q : Pump,
        let items := fun (x : State) =>
          PumpItems.mk (x.item (pumpItem q 1) == 1) (x.item (pumpItem q 2)) (x.item (pumpItem q 3))
            (x.item (pumpItem q 4)) (x.item (pumpItem q 5)) (x.item (pumpItem q 6)) (x.item (pumpItem q 7))
        let c := s.ch.get q
        let d := b.ch.get q
        (items s ≠ items a →
          d.pendingSet.getD d.force = items a ∧
          (c.state = .unavailable ∨ c.state = .idle ∨ c.state = .lockedOut → d.force = items a ∧ d.pendingSet = none) ∧
          (d.state = c.state → c.state = .direct ∨ c.state = .star ∨ c.state = .changeover ∨ c.state = .running ∨
            c.state = .stopping → d.force = c.force ∧ d.pendingSet = some (items a))) ∧
        (items s = items a → d.pendingSet.getD d.force = c.pendingSet.getD c.force)) ∧
      -- staging
      (∀ q, a.present q = false → s.present q = true → b.su.entry.get q = none ∧ (b.ch.get q).source = .off) ∧
      ((∃ q, s.present q ≠ a.present q) → ∀ q, q ∈ b.su.roster ↔ a.present q = true) ∧
      (session → s.su.fallback = false → (∃ i ∈ List.range 12, differs (11 + i)) →
        ∀ l, s.su.level = some l →
        (∀ i ∈ List.range 6,
          b.su.flags.getD i false =
            if a.item (11 + i) ≤ l then true else if l ≤ a.item (17 + i) then false else s.su.flags.getD i false) ∧
        b.su.dLevel = ((b.su.flags.take (Pump.all.filter a.present).length).filter id).length) ∧
      (differs 26 → a.item 26 = 0 → b.su.dutyStart = none ∧ b.su.deferredRot = false) ∧
      -- the arbiter and the supervisor
      (let limit := match s.sa.power with
        | .mains => a.item 27
        | .generator => min (a.item 27) (a.item 28)
        | .dead => 0
      b.sa.limit = limit ∧
      (limit < s.sa.limit → s.sa.power ≠ .dead → s.su.handover = none →
        (∀ k, 54 ≤ k → k ≤ 101 → ¬differs k) → ¬differs 30 → ¬differs 52 → ¬differs 53 →
        let u := { a with sa := { a.sa with limit := limit } }
        b.ch = u.shedExcess.ch ∧ b.cg.pump = u.shedExcess.cg.pump ∧ b.su.posted = u.shedExcess.su.posted)) ∧
      b.work.offer = true ∧
      b.sa.hold = s.sa.hold ∧
      (s.sa.holder = .none →
        b.sa.staggerOn =
          (s.sa.staggerOn && !(decide (differs 31) &&
            (match s.sa.lastRelease with
              | some r => decide (r + a.item 31 * 1000 ≤ s.uptime)
              | none => true)))) ∧
      -- the guard's held requests under a committed dead time
      (let due := fun (x : Pair) (dead : Nat) (k : Member) =>
        x.on k.other = false ∧ ∀ r, x.rel k.other = some r → r + dead ≤ s.uptime
      (∀ q, ¬differs (pumpItem q 0) → s.sa.limit ≤ b.sa.limit → s.su.handover = none → ¬differs 52 → ¬differs 53 →
        let x := s.cg.pump.get q
        let y := b.cg.pump.get q
        (∀ k, differs 30 → x.held = some k → due x (a.item 30) k →
          (s.ch.get q).state ≠ .changeover ∨ (s.ch.get q).deferred = false ∨ (s.ch.get q).force.minRun ≠ 0 →
          y.on k = true ∧ y.held = none ∧
          (k = .second → (s.ch.get q).state = .changeover → (b.ch.get q).state = .running)) ∧
        (¬differs 30 ∨ x.held = none ∨ (∃ k, x.held = some k ∧ ¬due x (a.item 30) k) → y = x)) ∧
      (let x := s.cg.rake
      let y := b.cg.rake
      (∀ k, differs 44 → x.held = some k → due x (a.item 44) k → y.on k = true ∧ y.held = none) ∧
      (¬differs 44 ∨ x.held = none ∨ (∃ k, x.held = some k ∧ ¬due x (a.item 44) k) → y = x)))

/-- COMMIT_SETTINGS (R166, Table 10-4), at the blocks that CommitApplied leaves out, with its `a` and `b`: the rake
(R98, R99, R111, R112), the Overflow Monitor (R119), the summary (R30), the Alarm Table (R130) and the link timers
(R159). Of several changes at the monitor the timers take their new lengths first, the conditions are then evaluated,
and last an ended timer acts (log 51); a PARKED rake moved by a request of the commit and the order of the blocks are
the model's too (logs 41 and 28). -/
def Obligations.CommitAtOtherBlocks : Prop :=
  ∀ (s : State) (p : Port) (tag : Byte), s.ss.store = .idle → s.ss.holder = some p → s.inconsistentItem = none →
    s.settingsRight → s.owedBound →
    let h := s.hear p
    let new := s.ss.entries.foldl (fun l e => l.set (e.1 - 1) e.2) s.ss.active
    let a : State := { h with ss := { h.ss with active := new, dropped := h.ss.dropped.set p false } }
    let b := a.applyCommit s.ss.active
    let n := (s.ss.entries.filter fun e => e.2 != s.item e.1).length
    let differs := fun k => s.item k ≠ a.item k
    ∃ t, exec (.commitSettings p tag) s = .next t ∧
      (let ended := h.finish
        { b with
          ss :=
            { b.ss with
              holder := none, entries := [], defaults := false, store := .commit p n
              image := { items := new, wear := s.wearSnapshot, version := Config.imageVersion, check := none } } }
      t = { ended with ports := ended.ports.set p (t.ports.get p) }) ∧
      -- the rake
      (let asked := differs 35 ∧ s.rc.armed = true ∧ (∃ v, s.liu.diff = some v ∧ a.item 35 ≤ v)
      let shifted := s.rc.interval.map fun e => e - s.item 37 * 60000 + a.item 37 * 60000
      let ran := differs 37 ∧ a.item 37 ≠ 0 ∧ (∃ e, shifted = some e ∧ e ≤ s.uptime)
      b.rc.owed = min 8 (s.rc.owed + (if asked then 1 else 0) + if ran then 1 else 0) ∧
      b.rc.armed =
        (match s.liu.diff with
          | some v => if differs 35 then decide (v < a.item 35) else s.rc.armed
          | none => s.rc.armed) ∧
      b.rc.interval =
        (if ¬differs 37 then s.rc.interval
        else if a.item 37 = 0 then none
        else if ran ∨ shifted = none then some (s.uptime + a.item 37 * 60000)
        else shifted) ∧
      (differs 36 → b.rc.forced =
        (b.rc.owed == 8 || match s.liu.diff with | some v => decide (a.item 36 ≤ v) | none => false)) ∧
      (differs 43 → ∀ v, s.liu.diff = some v →
        b.rc.blinded = (if v < a.item 43 then false else s.rc.blinded) ∧
        b.rc.blindTimer =
          (if v < a.item 43 then none
          else if s.rc.blindTimer = none ∧ s.rc.blinded = false then some (s.uptime + 60000)
          else s.rc.blindTimer)) ∧
      b.rc.state =
        (if s.rc.state = .parked ∧ s.rc.owed < 8 ∧ (asked ∨ ran) then .waitPermit else s.rc.state)) ∧
      -- the overflow monitor
      (let shifted :=
        { a with om := { s.om with
          openTimer := s.om.openTimer.map fun e => e - s.item 48 * 1000 + a.item 48 * 1000
          closeTimer := s.om.closeTimer.map fun e => e - s.item 49 * 1000 + a.item 49 * 1000 } }
      let v := if differs 46 ∨ differs 47 then shifted.omEvaluate.om else shifted.om
      let opens := differs 48 ∧ v.state = .opening ∧ ∃ e, v.openTimer = some e ∧ e ≤ s.uptime
      let closes := differs 49 ∧ v.state = .closing ∧ ∃ e, v.closeTimer = some e ∧ e ≤ s.uptime
      let start := v.debounce.getD (s.uptime, s.clockTime)
      let level := if s.wellGood then s.well.level else none
      (¬opens → ¬closes → b.om = v) ∧
      (opens → b.be.preSpill = 0 ∧ (s.pointsHeld → (b.point 33).cond = true) ∧
        b.om =
          { v with
            state := .opened, openTimer := none
            nextNum := if v.nextNum = 65535 then 1 else v.nextNum + 1
            nextUpdate := (s.uptime / 1000 + 1) * 1000
            event := some
              { num := v.nextNum, startUp := start.1, startTime := start.2, openLevel := level, peak := level
                spill := min 4294967295 s.be.preSpill, unmeasured := 0, elapsed := (s.uptime - start.1) / 1000
                lastTime := s.clockTime } }) ∧
      (closes → (v.event.isSome = true → s.pointsHeld → (b.point 33).cond = false) ∧
        b.om = { v with state := .quiet, closeTimer := none, event := none })) ∧
      -- the summary
      (let ends := differs 51 ∧ s.rl.clockValid = false ∧ s.be.sum.startUp + a.item 51 * 60000 ≤ s.uptime
      (ends → b.be.sum = ⟨s.uptime, none, 0, 0, none, 0, 0⟩ ∧
        (h.rl.nextSeq ≠ 0 → h.rl.nextSeq < 4294967000 → h.rl.log.length < 300 → ∃ r ∈ b.rl.log,
          r.body =
            .summary s.be.sum.startTime ((s.uptime - s.be.sum.startUp) / 1000) false s.be.sum.pumped s.be.sum.spilled
              s.be.sum.highest (if s.be.sum.sumT = 0 then none else some (s.be.sum.sumIT / s.be.sum.sumT))
              s.be.sum.sumT)) ∧
      (¬ends → b.be.sum = s.be.sum)) ∧
      -- the Alarm Table
      (s.pointsHeld → ∀ k, 1 ≤ k → k ≤ 46 →
        (s.item (183 + k) = 0 → a.item (183 + k) ≠ 0 →
          (b.point k).state = .normal ∧ ((h.point k).state ≠ .normal → (b.point k).unseen = ⟨true, true⟩)) ∧
        (s.item (183 + k) ≠ 0 → a.item (183 + k) = 0 → (h.point k).state = .normal →
          ((b.point k).cond = true → (b.point k).state = .activeUnack) ∧
          ((b.point k).cond = false → (b.point k).state = .normal ∨ (b.point k).state = .clearedUnack))) ∧
      -- the link timers
      (∀ q : Port,
        let item := match q with
          | .panel => 52
          | .town => 53
        let c := h.ports.get q
        let e := c.lastReq.getD 0 + a.item item * 1000
        b.ports.get q =
          if differs item ∧ c.link ≠ .silent then
            (if e ≤ s.uptime then { c with link := .silent, linkTimer := none } else { c with linkTimer := some e })
          else c)
end

