-- ==== Sys2Proof/Laws/State.lean ====
section
/-! SUPPORT. The small laws of the state: reading a per-port, per-channel or per-pump value after it is set,
and one law per field for every record update of the blocks. -/

namespace Sys2Proof.Machine

@[simp] theorem PerPort.get_set_self {α : Type} (v : PerPort α) (p : Port) (x : α) : (v.set p x).get p = x := by
  cases p <;> rfl

theorem PerPort.get_set {α : Type} (v : PerPort α) (p q : Port) (x : α) :
    (v.set p x).get q = if q = p then x else v.get q := by
  cases p <;> cases q <;> rfl

@[simp] theorem PerPort.get_set_ne {α : Type} (v : PerPort α) {p q : Port} (x : α) (h : q ≠ p) :
    (v.set p x).get q = v.get q := by
  rw [PerPort.get_set, if_neg h]

@[simp] theorem PerPort.set_get {α : Type} (v : PerPort α) (p : Port) : v.set p (v.get p) = v := by
  cases p <;> rfl

@[simp] theorem PerLoop.get_set_self {α : Type} (v : PerLoop α) (c : Loop) (x : α) : (v.set c x).get c = x := by
  cases c <;> rfl

theorem PerLoop.get_set {α : Type} (v : PerLoop α) (c d : Loop) (x : α) :
    (v.set c x).get d = if d = c then x else v.get d := by
  cases c <;> cases d <;> rfl

@[simp] theorem PerPump.get_set_self {α : Type} (v : PerPump α) (p : Pump) (x : α) : (v.set p x).get p = x := by
  cases p <;> rfl

theorem PerPump.get_set {α : Type} (v : PerPump α) (p q : Pump) (x : α) :
    (v.set p x).get q = if q = p then x else v.get q := by
  cases p <;> cases q <;> rfl

@[simp] theorem PerPump.get_set_ne {α : Type} (v : PerPump α) {p q : Pump} (x : α) (h : q ≠ p) :
    (v.set p x).get q = v.get q := by
  rw [PerPump.get_set, if_neg h]

@[simp] theorem PerPump.set_get {α : Type} (v : PerPump α) (p : Pump) : v.set p (v.get p) = v := by
  cases p <;> rfl

@[simp] theorem PerPump.set_set {α : Type} (v : PerPump α) (p : Pump) (x y : α) : (v.set p x).set p y = v.set p y := by
  cases p <;> rfl

@[simp] theorem PerPump.get_const {α : Type} (p : Pump) (x : α) : (PerPump.const x).get p = x := by
  cases p <;> rfl

/-- Two per-pump values agree when they agree at every pump. -/
theorem PerPump.ext_get {α : Type} {v w : PerPump α} (h : ∀ p, v.get p = w.get p) : v = w := by
  obtain ⟨a, b, c, d, e, f⟩ := v
  obtain ⟨a', b', c', d', e', f'⟩ := w
  have h1 := h .p1
  have h2 := h .p2
  have h3 := h .p3
  have h4 := h .p4
  have h5 := h .p5
  have h6 := h .p6
  simp only [PerPump.get] at h1 h2 h3 h4 h5 h6
  rw [h1, h2, h3, h4, h5, h6]

/-- Every pump is among all pumps. -/
@[simp] theorem Pump.mem_all (p : Pump) : p ∈ Pump.all := by cases p <;> decide

/-! ### mapCh -/

@[simp] theorem State.mapCh_uptime (s : State) (p : Pump) (f : Chan → Chan) : (s.mapCh p f).uptime = s.uptime := rfl
@[simp] theorem State.mapCh_resetKind (s : State) (p : Pump) (f : Chan → Chan) :
    (s.mapCh p f).resetKind = s.resetKind := rfl
@[simp] theorem State.mapCh_resetCause (s : State) (p : Pump) (f : Chan → Chan) :
    (s.mapCh p f).resetCause = s.resetCause := rfl
@[simp] theorem State.mapCh_liu (s : State) (p : Pump) (f : Chan → Chan) : (s.mapCh p f).liu = s.liu := rfl
@[simp] theorem State.mapCh_be (s : State) (p : Pump) (f : Chan → Chan) : (s.mapCh p f).be = s.be := rfl
@[simp] theorem State.mapCh_su (s : State) (p : Pump) (f : Chan → Chan) : (s.mapCh p f).su = s.su := rfl
@[simp] theorem State.mapCh_ch (s : State) (p : Pump) (f : Chan → Chan) :
    (s.mapCh p f).ch = s.ch.set p (f (s.ch.get p)) := rfl
@[simp] theorem State.mapCh_cg (s : State) (p : Pump) (f : Chan → Chan) : (s.mapCh p f).cg = s.cg := rfl
@[simp] theorem State.mapCh_sa (s : State) (p : Pump) (f : Chan → Chan) : (s.mapCh p f).sa = s.sa := rfl
@[simp] theorem State.mapCh_rc (s : State) (p : Pump) (f : Chan → Chan) : (s.mapCh p f).rc = s.rc := rfl
@[simp] theorem State.mapCh_om (s : State) (p : Pump) (f : Chan → Chan) : (s.mapCh p f).om = s.om := rfl
@[simp] theorem State.mapCh_alarms (s : State) (p : Pump) (f : Chan → Chan) : (s.mapCh p f).alarms = s.alarms := rfl
@[simp] theorem State.mapCh_rl (s : State) (p : Pump) (f : Chan → Chan) : (s.mapCh p f).rl = s.rl := rfl
@[simp] theorem State.mapCh_ports (s : State) (p : Pump) (f : Chan → Chan) : (s.mapCh p f).ports = s.ports := rfl
@[simp] theorem State.mapCh_ss (s : State) (p : Pump) (f : Chan → Chan) : (s.mapCh p f).ss = s.ss := rfl
@[simp] theorem State.mapCh_work (s : State) (p : Pump) (f : Chan → Chan) : (s.mapCh p f).work = s.work := rfl
@[simp] theorem State.mapCh_pending (s : State) (p : Pump) (f : Chan → Chan) :
    (s.mapCh p f).pending = s.pending := rfl

/-! ### mapPort -/

@[simp] theorem State.mapPort_uptime (s : State) (p : Port) (f : PortCtl → PortCtl) :
    (s.mapPort p f).uptime = s.uptime := rfl
@[simp] theorem State.mapPort_resetKind (s : State) (p : Port) (f : PortCtl → PortCtl) :
    (s.mapPort p f).resetKind = s.resetKind := rfl
@[simp] theorem State.mapPort_resetCause (s : State) (p : Port) (f : PortCtl → PortCtl) :
    (s.mapPort p f).resetCause = s.resetCause := rfl
@[simp] theorem State.mapPort_liu (s : State) (p : Port) (f : PortCtl → PortCtl) : (s.mapPort p f).liu = s.liu := rfl
@[simp] theorem State.mapPort_be (s : State) (p : Port) (f : PortCtl → PortCtl) : (s.mapPort p f).be = s.be := rfl
@[simp] theorem State.mapPort_su (s : State) (p : Port) (f : PortCtl → PortCtl) : (s.mapPort p f).su = s.su := rfl
@[simp] theorem State.mapPort_ch (s : State) (p : Port) (f : PortCtl → PortCtl) : (s.mapPort p f).ch = s.ch := rfl
@[simp] theorem State.mapPort_cg (s : State) (p : Port) (f : PortCtl → PortCtl) : (s.mapPort p f).cg = s.cg := rfl
@[simp] theorem State.mapPort_sa (s : State) (p : Port) (f : PortCtl → PortCtl) : (s.mapPort p f).sa = s.sa := rfl
@[simp] theorem State.mapPort_rc (s : State) (p : Port) (f : PortCtl → PortCtl) : (s.mapPort p f).rc = s.rc := rfl
@[simp] theorem State.mapPort_om (s : State) (p : Port) (f : PortCtl → PortCtl) : (s.mapPort p f).om = s.om := rfl
@[simp] theorem State.mapPort_alarms (s : State) (p : Port) (f : PortCtl → PortCtl) :
    (s.mapPort p f).alarms = s.alarms := rfl
@[simp] theorem State.mapPort_rl (s : State) (p : Port) (f : PortCtl → PortCtl) : (s.mapPort p f).rl = s.rl := rfl
@[simp] theorem State.mapPort_ports (s : State) (p : Port) (f : PortCtl → PortCtl) :
    (s.mapPort p f).ports = s.ports.set p (f (s.ports.get p)) := rfl
@[simp] theorem State.mapPort_ss (s : State) (p : Port) (f : PortCtl → PortCtl) : (s.mapPort p f).ss = s.ss := rfl
@[simp] theorem State.mapPort_work (s : State) (p : Port) (f : PortCtl → PortCtl) :
    (s.mapPort p f).work = s.work := rfl
@[simp] theorem State.mapPort_pending (s : State) (p : Port) (f : PortCtl → PortCtl) :
    (s.mapPort p f).pending = s.pending := rfl

/-! ### mapRc -/

@[simp] theorem State.mapRc_uptime (s : State) (f : Rc → Rc) : (s.mapRc f).uptime = s.uptime := rfl
@[simp] theorem State.mapRc_resetKind (s : State) (f : Rc → Rc) : (s.mapRc f).resetKind = s.resetKind := rfl
@[simp] theorem State.mapRc_resetCause (s : State) (f : Rc → Rc) : (s.mapRc f).resetCause = s.resetCause := rfl
@[simp] theorem State.mapRc_liu (s : State) (f : Rc → Rc) : (s.mapRc f).liu = s.liu := rfl
@[simp] theorem State.mapRc_be (s : State) (f : Rc → Rc) : (s.mapRc f).be = s.be := rfl
@[simp] theorem State.mapRc_su (s : State) (f : Rc → Rc) : (s.mapRc f).su = s.su := rfl
@[simp] theorem State.mapRc_ch (s : State) (f : Rc → Rc) : (s.mapRc f).ch = s.ch := rfl
@[simp] theorem State.mapRc_cg (s : State) (f : Rc → Rc) : (s.mapRc f).cg = s.cg := rfl
@[simp] theorem State.mapRc_sa (s : State) (f : Rc → Rc) : (s.mapRc f).sa = s.sa := rfl
@[simp] theorem State.mapRc_rc (s : State) (f : Rc → Rc) : (s.mapRc f).rc = f s.rc := rfl
@[simp] theorem State.mapRc_om (s : State) (f : Rc → Rc) : (s.mapRc f).om = s.om := rfl
@[simp] theorem State.mapRc_alarms (s : State) (f : Rc → Rc) : (s.mapRc f).alarms = s.alarms := rfl
@[simp] theorem State.mapRc_rl (s : State) (f : Rc → Rc) : (s.mapRc f).rl = s.rl := rfl
@[simp] theorem State.mapRc_ports (s : State) (f : Rc → Rc) : (s.mapRc f).ports = s.ports := rfl
@[simp] theorem State.mapRc_ss (s : State) (f : Rc → Rc) : (s.mapRc f).ss = s.ss := rfl
@[simp] theorem State.mapRc_work (s : State) (f : Rc → Rc) : (s.mapRc f).work = s.work := rfl
@[simp] theorem State.mapRc_pending (s : State) (f : Rc → Rc) : (s.mapRc f).pending = s.pending := rfl

/-! ### mapSu -/

@[simp] theorem State.mapSu_uptime (s : State) (f : Su → Su) : (s.mapSu f).uptime = s.uptime := rfl
@[simp] theorem State.mapSu_resetKind (s : State) (f : Su → Su) : (s.mapSu f).resetKind = s.resetKind := rfl
@[simp] theorem State.mapSu_resetCause (s : State) (f : Su → Su) : (s.mapSu f).resetCause = s.resetCause := rfl
@[simp] theorem State.mapSu_liu (s : State) (f : Su → Su) : (s.mapSu f).liu = s.liu := rfl
@[simp] theorem State.mapSu_be (s : State) (f : Su → Su) : (s.mapSu f).be = s.be := rfl
@[simp] theorem State.mapSu_su (s : State) (f : Su → Su) : (s.mapSu f).su = f s.su := rfl
@[simp] theorem State.mapSu_ch (s : State) (f : Su → Su) : (s.mapSu f).ch = s.ch := rfl
@[simp] theorem State.mapSu_cg (s : State) (f : Su → Su) : (s.mapSu f).cg = s.cg := rfl
@[simp] theorem State.mapSu_sa (s : State) (f : Su → Su) : (s.mapSu f).sa = s.sa := rfl
@[simp] theorem State.mapSu_rc (s : State) (f : Su → Su) : (s.mapSu f).rc = s.rc := rfl
@[simp] theorem State.mapSu_om (s : State) (f : Su → Su) : (s.mapSu f).om = s.om := rfl
@[simp] theorem State.mapSu_alarms (s : State) (f : Su → Su) : (s.mapSu f).alarms = s.alarms := rfl
@[simp] theorem State.mapSu_rl (s : State) (f : Su → Su) : (s.mapSu f).rl = s.rl := rfl
@[simp] theorem State.mapSu_ports (s : State) (f : Su → Su) : (s.mapSu f).ports = s.ports := rfl
@[simp] theorem State.mapSu_ss (s : State) (f : Su → Su) : (s.mapSu f).ss = s.ss := rfl
@[simp] theorem State.mapSu_work (s : State) (f : Su → Su) : (s.mapSu f).work = s.work := rfl
@[simp] theorem State.mapSu_pending (s : State) (f : Su → Su) : (s.mapSu f).pending = s.pending := rfl

/-! ### mapSa -/

@[simp] theorem State.mapSa_uptime (s : State) (f : Sa → Sa) : (s.mapSa f).uptime = s.uptime := rfl
@[simp] theorem State.mapSa_resetKind (s : State) (f : Sa → Sa) : (s.mapSa f).resetKind = s.resetKind := rfl
@[simp] theorem State.mapSa_resetCause (s : State) (f : Sa → Sa) : (s.mapSa f).resetCause = s.resetCause := rfl
@[simp] theorem State.mapSa_liu (s : State) (f : Sa → Sa) : (s.mapSa f).liu = s.liu := rfl
@[simp] theorem State.mapSa_be (s : State) (f : Sa → Sa) : (s.mapSa f).be = s.be := rfl
@[simp] theorem State.mapSa_su (s : State) (f : Sa → Sa) : (s.mapSa f).su = s.su := rfl
@[simp] theorem State.mapSa_ch (s : State) (f : Sa → Sa) : (s.mapSa f).ch = s.ch := rfl
@[simp] theorem State.mapSa_cg (s : State) (f : Sa → Sa) : (s.mapSa f).cg = s.cg := rfl
@[simp] theorem State.mapSa_sa (s : State) (f : Sa → Sa) : (s.mapSa f).sa = f s.sa := rfl
@[simp] theorem State.mapSa_rc (s : State) (f : Sa → Sa) : (s.mapSa f).rc = s.rc := rfl
@[simp] theorem State.mapSa_om (s : State) (f : Sa → Sa) : (s.mapSa f).om = s.om := rfl
@[simp] theorem State.mapSa_alarms (s : State) (f : Sa → Sa) : (s.mapSa f).alarms = s.alarms := rfl
@[simp] theorem State.mapSa_rl (s : State) (f : Sa → Sa) : (s.mapSa f).rl = s.rl := rfl
@[simp] theorem State.mapSa_ports (s : State) (f : Sa → Sa) : (s.mapSa f).ports = s.ports := rfl
@[simp] theorem State.mapSa_ss (s : State) (f : Sa → Sa) : (s.mapSa f).ss = s.ss := rfl
@[simp] theorem State.mapSa_work (s : State) (f : Sa → Sa) : (s.mapSa f).work = s.work := rfl
@[simp] theorem State.mapSa_pending (s : State) (f : Sa → Sa) : (s.mapSa f).pending = s.pending := rfl

/-! ### mapBe -/

@[simp] theorem State.mapBe_uptime (s : State) (f : Be → Be) : (s.mapBe f).uptime = s.uptime := rfl
@[simp] theorem State.mapBe_resetKind (s : State) (f : Be → Be) : (s.mapBe f).resetKind = s.resetKind := rfl
@[simp] theorem State.mapBe_resetCause (s : State) (f : Be → Be) : (s.mapBe f).resetCause = s.resetCause := rfl
@[simp] theorem State.mapBe_liu (s : State) (f : Be → Be) : (s.mapBe f).liu = s.liu := rfl
@[simp] theorem State.mapBe_be (s : State) (f : Be → Be) : (s.mapBe f).be = f s.be := rfl
@[simp] theorem State.mapBe_su (s : State) (f : Be → Be) : (s.mapBe f).su = s.su := rfl
@[simp] theorem State.mapBe_ch (s : State) (f : Be → Be) : (s.mapBe f).ch = s.ch := rfl
@[simp] theorem State.mapBe_cg (s : State) (f : Be → Be) : (s.mapBe f).cg = s.cg := rfl
@[simp] theorem State.mapBe_sa (s : State) (f : Be → Be) : (s.mapBe f).sa = s.sa := rfl
@[simp] theorem State.mapBe_rc (s : State) (f : Be → Be) : (s.mapBe f).rc = s.rc := rfl
@[simp] theorem State.mapBe_om (s : State) (f : Be → Be) : (s.mapBe f).om = s.om := rfl
@[simp] theorem State.mapBe_alarms (s : State) (f : Be → Be) : (s.mapBe f).alarms = s.alarms := rfl
@[simp] theorem State.mapBe_rl (s : State) (f : Be → Be) : (s.mapBe f).rl = s.rl := rfl
@[simp] theorem State.mapBe_ports (s : State) (f : Be → Be) : (s.mapBe f).ports = s.ports := rfl
@[simp] theorem State.mapBe_ss (s : State) (f : Be → Be) : (s.mapBe f).ss = s.ss := rfl
@[simp] theorem State.mapBe_work (s : State) (f : Be → Be) : (s.mapBe f).work = s.work := rfl
@[simp] theorem State.mapBe_pending (s : State) (f : Be → Be) : (s.mapBe f).pending = s.pending := rfl

/-! ### mapOm -/

@[simp] theorem State.mapOm_uptime (s : State) (f : Om → Om) : (s.mapOm f).uptime = s.uptime := rfl
@[simp] theorem State.mapOm_resetKind (s : State) (f : Om → Om) : (s.mapOm f).resetKind = s.resetKind := rfl
@[simp] theorem State.mapOm_resetCause (s : State) (f : Om → Om) : (s.mapOm f).resetCause = s.resetCause := rfl
@[simp] theorem State.mapOm_liu (s : State) (f : Om → Om) : (s.mapOm f).liu = s.liu := rfl
@[simp] theorem State.mapOm_be (s : State) (f : Om → Om) : (s.mapOm f).be = s.be := rfl
@[simp] theorem State.mapOm_su (s : State) (f : Om → Om) : (s.mapOm f).su = s.su := rfl
@[simp] theorem State.mapOm_ch (s : State) (f : Om → Om) : (s.mapOm f).ch = s.ch := rfl
@[simp] theorem State.mapOm_cg (s : State) (f : Om → Om) : (s.mapOm f).cg = s.cg := rfl
@[simp] theorem State.mapOm_sa (s : State) (f : Om → Om) : (s.mapOm f).sa = s.sa := rfl
@[simp] theorem State.mapOm_rc (s : State) (f : Om → Om) : (s.mapOm f).rc = s.rc := rfl
@[simp] theorem State.mapOm_om (s : State) (f : Om → Om) : (s.mapOm f).om = f s.om := rfl
@[simp] theorem State.mapOm_alarms (s : State) (f : Om → Om) : (s.mapOm f).alarms = s.alarms := rfl
@[simp] theorem State.mapOm_rl (s : State) (f : Om → Om) : (s.mapOm f).rl = s.rl := rfl
@[simp] theorem State.mapOm_ports (s : State) (f : Om → Om) : (s.mapOm f).ports = s.ports := rfl
@[simp] theorem State.mapOm_ss (s : State) (f : Om → Om) : (s.mapOm f).ss = s.ss := rfl
@[simp] theorem State.mapOm_work (s : State) (f : Om → Om) : (s.mapOm f).work = s.work := rfl
@[simp] theorem State.mapOm_pending (s : State) (f : Om → Om) : (s.mapOm f).pending = s.pending := rfl

/-! ### mapLiu -/

@[simp] theorem State.mapLiu_uptime (s : State) (f : Liu → Liu) : (s.mapLiu f).uptime = s.uptime := rfl
@[simp] theorem State.mapLiu_resetKind (s : State) (f : Liu → Liu) : (s.mapLiu f).resetKind = s.resetKind := rfl
@[simp] theorem State.mapLiu_resetCause (s : State) (f : Liu → Liu) : (s.mapLiu f).resetCause = s.resetCause := rfl
@[simp] theorem State.mapLiu_liu (s : State) (f : Liu → Liu) : (s.mapLiu f).liu = f s.liu := rfl
@[simp] theorem State.mapLiu_be (s : State) (f : Liu → Liu) : (s.mapLiu f).be = s.be := rfl
@[simp] theorem State.mapLiu_su (s : State) (f : Liu → Liu) : (s.mapLiu f).su = s.su := rfl
@[simp] theorem State.mapLiu_ch (s : State) (f : Liu → Liu) : (s.mapLiu f).ch = s.ch := rfl
@[simp] theorem State.mapLiu_cg (s : State) (f : Liu → Liu) : (s.mapLiu f).cg = s.cg := rfl
@[simp] theorem State.mapLiu_sa (s : State) (f : Liu → Liu) : (s.mapLiu f).sa = s.sa := rfl
@[simp] theorem State.mapLiu_rc (s : State) (f : Liu → Liu) : (s.mapLiu f).rc = s.rc := rfl
@[simp] theorem State.mapLiu_om (s : State) (f : Liu → Liu) : (s.mapLiu f).om = s.om := rfl
@[simp] theorem State.mapLiu_alarms (s : State) (f : Liu → Liu) : (s.mapLiu f).alarms = s.alarms := rfl
@[simp] theorem State.mapLiu_rl (s : State) (f : Liu → Liu) : (s.mapLiu f).rl = s.rl := rfl
@[simp] theorem State.mapLiu_ports (s : State) (f : Liu → Liu) : (s.mapLiu f).ports = s.ports := rfl
@[simp] theorem State.mapLiu_ss (s : State) (f : Liu → Liu) : (s.mapLiu f).ss = s.ss := rfl
@[simp] theorem State.mapLiu_work (s : State) (f : Liu → Liu) : (s.mapLiu f).work = s.work := rfl
@[simp] theorem State.mapLiu_pending (s : State) (f : Liu → Liu) : (s.mapLiu f).pending = s.pending := rfl

/-! ### mapSs -/

@[simp] theorem State.mapSs_uptime (s : State) (f : Ss → Ss) : (s.mapSs f).uptime = s.uptime := rfl
@[simp] theorem State.mapSs_resetKind (s : State) (f : Ss → Ss) : (s.mapSs f).resetKind = s.resetKind := rfl
@[simp] theorem State.mapSs_resetCause (s : State) (f : Ss → Ss) : (s.mapSs f).resetCause = s.resetCause := rfl
@[simp] theorem State.mapSs_liu (s : State) (f : Ss → Ss) : (s.mapSs f).liu = s.liu := rfl
@[simp] theorem State.mapSs_be (s : State) (f : Ss → Ss) : (s.mapSs f).be = s.be := rfl
@[simp] theorem State.mapSs_su (s : State) (f : Ss → Ss) : (s.mapSs f).su = s.su := rfl
@[simp] theorem State.mapSs_ch (s : State) (f : Ss → Ss) : (s.mapSs f).ch = s.ch := rfl
@[simp] theorem State.mapSs_cg (s : State) (f : Ss → Ss) : (s.mapSs f).cg = s.cg := rfl
@[simp] theorem State.mapSs_sa (s : State) (f : Ss → Ss) : (s.mapSs f).sa = s.sa := rfl
@[simp] theorem State.mapSs_rc (s : State) (f : Ss → Ss) : (s.mapSs f).rc = s.rc := rfl
@[simp] theorem State.mapSs_om (s : State) (f : Ss → Ss) : (s.mapSs f).om = s.om := rfl
@[simp] theorem State.mapSs_alarms (s : State) (f : Ss → Ss) : (s.mapSs f).alarms = s.alarms := rfl
@[simp] theorem State.mapSs_rl (s : State) (f : Ss → Ss) : (s.mapSs f).rl = s.rl := rfl
@[simp] theorem State.mapSs_ports (s : State) (f : Ss → Ss) : (s.mapSs f).ports = s.ports := rfl
@[simp] theorem State.mapSs_ss (s : State) (f : Ss → Ss) : (s.mapSs f).ss = f s.ss := rfl
@[simp] theorem State.mapSs_work (s : State) (f : Ss → Ss) : (s.mapSs f).work = s.work := rfl
@[simp] theorem State.mapSs_pending (s : State) (f : Ss → Ss) : (s.mapSs f).pending = s.pending := rfl

/-! ### askOffer -/

@[simp] theorem State.askOffer_uptime (s : State) : (s.askOffer).uptime = s.uptime := rfl
@[simp] theorem State.askOffer_resetKind (s : State) : (s.askOffer).resetKind = s.resetKind := rfl
@[simp] theorem State.askOffer_resetCause (s : State) : (s.askOffer).resetCause = s.resetCause := rfl
@[simp] theorem State.askOffer_liu (s : State) : (s.askOffer).liu = s.liu := rfl
@[simp] theorem State.askOffer_be (s : State) : (s.askOffer).be = s.be := rfl
@[simp] theorem State.askOffer_su (s : State) : (s.askOffer).su = s.su := rfl
@[simp] theorem State.askOffer_ch (s : State) : (s.askOffer).ch = s.ch := rfl
@[simp] theorem State.askOffer_cg (s : State) : (s.askOffer).cg = s.cg := rfl
@[simp] theorem State.askOffer_sa (s : State) : (s.askOffer).sa = s.sa := rfl
@[simp] theorem State.askOffer_rc (s : State) : (s.askOffer).rc = s.rc := rfl
@[simp] theorem State.askOffer_om (s : State) : (s.askOffer).om = s.om := rfl
@[simp] theorem State.askOffer_alarms (s : State) : (s.askOffer).alarms = s.alarms := rfl
@[simp] theorem State.askOffer_rl (s : State) : (s.askOffer).rl = s.rl := rfl
@[simp] theorem State.askOffer_ports (s : State) : (s.askOffer).ports = s.ports := rfl
@[simp] theorem State.askOffer_ss (s : State) : (s.askOffer).ss = s.ss := rfl
@[simp] theorem State.askOffer_work (s : State) : (s.askOffer).work = { s.work with offer := true } := rfl
@[simp] theorem State.askOffer_pending (s : State) : (s.askOffer).pending = s.pending := rfl

/-! ### setPoint -/

@[simp] theorem State.setPoint_uptime (s : State) (n : Nat) (a : Alarm) : (s.setPoint n a).uptime = s.uptime := rfl
@[simp] theorem State.setPoint_resetKind (s : State) (n : Nat) (a : Alarm) :
    (s.setPoint n a).resetKind = s.resetKind := rfl
@[simp] theorem State.setPoint_resetCause (s : State) (n : Nat) (a : Alarm) :
    (s.setPoint n a).resetCause = s.resetCause := rfl
@[simp] theorem State.setPoint_liu (s : State) (n : Nat) (a : Alarm) : (s.setPoint n a).liu = s.liu := rfl
@[simp] theorem State.setPoint_be (s : State) (n : Nat) (a : Alarm) : (s.setPoint n a).be = s.be := rfl
@[simp] theorem State.setPoint_su (s : State) (n : Nat) (a : Alarm) : (s.setPoint n a).su = s.su := rfl
@[simp] theorem State.setPoint_ch (s : State) (n : Nat) (a : Alarm) : (s.setPoint n a).ch = s.ch := rfl
@[simp] theorem State.setPoint_cg (s : State) (n : Nat) (a : Alarm) : (s.setPoint n a).cg = s.cg := rfl
@[simp] theorem State.setPoint_sa (s : State) (n : Nat) (a : Alarm) : (s.setPoint n a).sa = s.sa := rfl
@[simp] theorem State.setPoint_rc (s : State) (n : Nat) (a : Alarm) : (s.setPoint n a).rc = s.rc := rfl
@[simp] theorem State.setPoint_om (s : State) (n : Nat) (a : Alarm) : (s.setPoint n a).om = s.om := rfl
@[simp] theorem State.setPoint_alarms (s : State) (n : Nat) (a : Alarm) :
    (s.setPoint n a).alarms = { s.alarms with points := s.alarms.points.set (n - 1) a } := rfl
@[simp] theorem State.setPoint_rl (s : State) (n : Nat) (a : Alarm) : (s.setPoint n a).rl = s.rl := rfl
@[simp] theorem State.setPoint_ports (s : State) (n : Nat) (a : Alarm) : (s.setPoint n a).ports = s.ports := rfl
@[simp] theorem State.setPoint_ss (s : State) (n : Nat) (a : Alarm) : (s.setPoint n a).ss = s.ss := rfl
@[simp] theorem State.setPoint_work (s : State) (n : Nat) (a : Alarm) : (s.setPoint n a).work = s.work := rfl
@[simp] theorem State.setPoint_pending (s : State) (n : Nat) (a : Alarm) : (s.setPoint n a).pending = s.pending := rfl

/-! ### refreshLines -/

@[simp] theorem State.refreshLines_uptime (s : State) : (s.refreshLines).uptime = s.uptime := rfl
@[simp] theorem State.refreshLines_resetKind (s : State) : (s.refreshLines).resetKind = s.resetKind := rfl
@[simp] theorem State.refreshLines_resetCause (s : State) : (s.refreshLines).resetCause = s.resetCause := rfl
@[simp] theorem State.refreshLines_liu (s : State) : (s.refreshLines).liu = s.liu := rfl
@[simp] theorem State.refreshLines_be (s : State) : (s.refreshLines).be = s.be := rfl
@[simp] theorem State.refreshLines_su (s : State) : (s.refreshLines).su = s.su := rfl
@[simp] theorem State.refreshLines_ch (s : State) : (s.refreshLines).ch = s.ch := rfl
@[simp] theorem State.refreshLines_cg (s : State) : (s.refreshLines).cg = s.cg := rfl
@[simp] theorem State.refreshLines_sa (s : State) : (s.refreshLines).sa = s.sa := rfl
@[simp] theorem State.refreshLines_rc (s : State) : (s.refreshLines).rc = s.rc := rfl
@[simp] theorem State.refreshLines_om (s : State) : (s.refreshLines).om = s.om := rfl
@[simp] theorem State.refreshLines_alarms (s : State) :
    (s.refreshLines).alarms = { s.alarms with line := ⟨s.lineOf .panel, s.lineOf .town⟩, beacon := s.beaconOf } := rfl
@[simp] theorem State.refreshLines_rl (s : State) : (s.refreshLines).rl = s.rl := rfl
@[simp] theorem State.refreshLines_ports (s : State) : (s.refreshLines).ports = s.ports := rfl
@[simp] theorem State.refreshLines_ss (s : State) : (s.refreshLines).ss = s.ss := rfl
@[simp] theorem State.refreshLines_work (s : State) : (s.refreshLines).work = s.work := rfl
@[simp] theorem State.refreshLines_pending (s : State) : (s.refreshLines).pending = s.pending := rfl

/-! ### setSource -/

@[simp] theorem State.setSource_uptime (s : State) (p : Pump) (src : Source) :
    (s.setSource p src).uptime = s.uptime := rfl
@[simp] theorem State.setSource_resetKind (s : State) (p : Pump) (src : Source) :
    (s.setSource p src).resetKind = s.resetKind := rfl
@[simp] theorem State.setSource_resetCause (s : State) (p : Pump) (src : Source) :
    (s.setSource p src).resetCause = s.resetCause := rfl
@[simp] theorem State.setSource_liu (s : State) (p : Pump) (src : Source) : (s.setSource p src).liu = s.liu := rfl
@[simp] theorem State.setSource_be (s : State) (p : Pump) (src : Source) : (s.setSource p src).be = s.be := rfl
@[simp] theorem State.setSource_su (s : State) (p : Pump) (src : Source) : (s.setSource p src).su = s.su := rfl
@[simp] theorem State.setSource_ch (s : State) (p : Pump) (src : Source) :
    (s.setSource p src).ch = s.ch.set p { s.ch.get p with source := src } := rfl
@[simp] theorem State.setSource_cg (s : State) (p : Pump) (src : Source) : (s.setSource p src).cg = s.cg := rfl
@[simp] theorem State.setSource_sa (s : State) (p : Pump) (src : Source) : (s.setSource p src).sa = s.sa := rfl
@[simp] theorem State.setSource_rc (s : State) (p : Pump) (src : Source) : (s.setSource p src).rc = s.rc := rfl
@[simp] theorem State.setSource_om (s : State) (p : Pump) (src : Source) : (s.setSource p src).om = s.om := rfl
@[simp] theorem State.setSource_alarms (s : State) (p : Pump) (src : Source) :
    (s.setSource p src).alarms = s.alarms := rfl
@[simp] theorem State.setSource_rl (s : State) (p : Pump) (src : Source) : (s.setSource p src).rl = s.rl := rfl
@[simp] theorem State.setSource_ports (s : State) (p : Pump) (src : Source) :
    (s.setSource p src).ports = s.ports := rfl
@[simp] theorem State.setSource_ss (s : State) (p : Pump) (src : Source) : (s.setSource p src).ss = s.ss := rfl
@[simp] theorem State.setSource_work (s : State) (p : Pump) (src : Source) : (s.setSource p src).work = s.work := rfl
@[simp] theorem State.setSource_pending (s : State) (p : Pump) (src : Source) :
    (s.setSource p src).pending = s.pending := rfl

/-! ### passTime -/

@[simp] theorem State.passTime_uptime (s : State) : (s.passTime).uptime = s.uptime + 1 := rfl
@[simp] theorem State.passTime_resetKind (s : State) : (s.passTime).resetKind = s.resetKind := rfl
@[simp] theorem State.passTime_resetCause (s : State) : (s.passTime).resetCause = s.resetCause := rfl
@[simp] theorem State.passTime_liu (s : State) : (s.passTime).liu = s.liu := rfl
@[simp] theorem State.passTime_be (s : State) : (s.passTime).be = s.be := rfl
@[simp] theorem State.passTime_su (s : State) : (s.passTime).su = s.su := rfl
@[simp] theorem State.passTime_ch (s : State) : (s.passTime).ch = s.ch := rfl
@[simp] theorem State.passTime_cg (s : State) : (s.passTime).cg = s.cg := rfl
@[simp] theorem State.passTime_sa (s : State) : (s.passTime).sa = s.sa := rfl
@[simp] theorem State.passTime_rc (s : State) : (s.passTime).rc = s.rc := rfl
@[simp] theorem State.passTime_om (s : State) : (s.passTime).om = s.om := rfl
@[simp] theorem State.passTime_alarms (s : State) : (s.passTime).alarms = s.alarms := rfl
@[simp] theorem State.passTime_rl (s : State) : (s.passTime).rl = s.rl := rfl
@[simp] theorem State.passTime_ports (s : State) : (s.passTime).ports = s.ports := rfl
@[simp] theorem State.passTime_ss (s : State) : (s.passTime).ss = s.ss := rfl
@[simp] theorem State.passTime_work (s : State) : (s.passTime).work = s.work := rfl
@[simp] theorem State.passTime_pending (s : State) : (s.passTime).pending = s.pending := rfl

/-! ### setPair -/

@[simp] theorem State.setPair_uptime (s : State) (g : GuardPair) (x : Pair) : (s.setPair g x).uptime = s.uptime := by
  cases g <;> rfl
@[simp] theorem State.setPair_resetKind (s : State) (g : GuardPair) (x : Pair) : (s.setPair g x).resetKind = s.resetKind := by
  cases g <;> rfl
@[simp] theorem State.setPair_resetCause (s : State) (g : GuardPair) (x : Pair) : (s.setPair g x).resetCause = s.resetCause := by
  cases g <;> rfl
@[simp] theorem State.setPair_liu (s : State) (g : GuardPair) (x : Pair) : (s.setPair g x).liu = s.liu := by
  cases g <;> rfl
@[simp] theorem State.setPair_be (s : State) (g : GuardPair) (x : Pair) : (s.setPair g x).be = s.be := by
  cases g <;> rfl
@[simp] theorem State.setPair_su (s : State) (g : GuardPair) (x : Pair) : (s.setPair g x).su = s.su := by
  cases g <;> rfl
@[simp] theorem State.setPair_ch (s : State) (g : GuardPair) (x : Pair) : (s.setPair g x).ch = s.ch := by
  cases g <;> rfl
@[simp] theorem State.setPair_sa (s : State) (g : GuardPair) (x : Pair) : (s.setPair g x).sa = s.sa := by
  cases g <;> rfl
@[simp] theorem State.setPair_rc (s : State) (g : GuardPair) (x : Pair) : (s.setPair g x).rc = s.rc := by
  cases g <;> rfl
@[simp] theorem State.setPair_om (s : State) (g : GuardPair) (x : Pair) : (s.setPair g x).om = s.om := by
  cases g <;> rfl
@[simp] theorem State.setPair_alarms (s : State) (g : GuardPair) (x : Pair) : (s.setPair g x).alarms = s.alarms := by
  cases g <;> rfl
@[simp] theorem State.setPair_rl (s : State) (g : GuardPair) (x : Pair) : (s.setPair g x).rl = s.rl := by
  cases g <;> rfl
@[simp] theorem State.setPair_ports (s : State) (g : GuardPair) (x : Pair) : (s.setPair g x).ports = s.ports := by
  cases g <;> rfl
@[simp] theorem State.setPair_ss (s : State) (g : GuardPair) (x : Pair) : (s.setPair g x).ss = s.ss := by
  cases g <;> rfl
@[simp] theorem State.setPair_work (s : State) (g : GuardPair) (x : Pair) : (s.setPair g x).work = s.work := by
  cases g <;> rfl
@[simp] theorem State.setPair_pending (s : State) (g : GuardPair) (x : Pair) : (s.setPair g x).pending = s.pending := by
  cases g <;> rfl

@[simp] theorem State.pair_setPair_self (s : State) (g : GuardPair) (x : Pair) : (s.setPair g x).pair g = x := by
  cases g <;> simp [State.setPair, State.pair]

/-- Setting one pair leaves the others. -/
theorem State.pair_setPair_ne (s : State) {g h : GuardPair} (x : Pair) (n : h ≠ g) : (s.setPair g x).pair h = s.pair h := by
  cases g <;> cases h <;> simp_all [State.setPair, State.pair]

/-! ### One channel, one port -/

@[simp] theorem State.get_mapCh_self (s : State) (p : Pump) (f : Chan → Chan) :
    (s.mapCh p f).ch.get p = f (s.ch.get p) := by simp

/-- A change of one channel leaves the others. -/
theorem State.get_mapCh_ne (s : State) {p q : Pump} (f : Chan → Chan) (h : q ≠ p) :
    (s.mapCh p f).ch.get q = s.ch.get q := by simp [h]

@[simp] theorem State.get_mapPort_self (s : State) (p : Port) (f : PortCtl → PortCtl) :
    (s.mapPort p f).ports.get p = f (s.ports.get p) := by simp

/-- A change of one port leaves the other. -/
theorem State.get_mapPort_ne (s : State) {p q : Port} (f : PortCtl → PortCtl) (h : q ≠ p) :
    (s.mapPort p f).ports.get q = s.ports.get q := by simp [h]

end Sys2Proof.Machine
end

