-- ==== Sys2Proof/Laws/FrameOps.lean ====
section
/-! SUPPORT. Frames of the log, the Alarm Table, the guard and the permit: for each shared operation, the blocks of the state it
leaves as they were. -/

namespace Sys2Proof.Machine

@[simp] theorem State.ite_uptime (c : Prop) [Decidable c] (a b : State) :
    (if c then a else b).uptime = if c then a.uptime else b.uptime := apply_ite State.uptime c a b
@[simp] theorem State.ite_resetKind (c : Prop) [Decidable c] (a b : State) :
    (if c then a else b).resetKind = if c then a.resetKind else b.resetKind := apply_ite State.resetKind c a b
@[simp] theorem State.ite_resetCause (c : Prop) [Decidable c] (a b : State) :
    (if c then a else b).resetCause = if c then a.resetCause else b.resetCause := apply_ite State.resetCause c a b
@[simp] theorem State.ite_liu (c : Prop) [Decidable c] (a b : State) :
    (if c then a else b).liu = if c then a.liu else b.liu := apply_ite State.liu c a b
@[simp] theorem State.ite_be (c : Prop) [Decidable c] (a b : State) :
    (if c then a else b).be = if c then a.be else b.be := apply_ite State.be c a b
@[simp] theorem State.ite_su (c : Prop) [Decidable c] (a b : State) :
    (if c then a else b).su = if c then a.su else b.su := apply_ite State.su c a b
@[simp] theorem State.ite_ch (c : Prop) [Decidable c] (a b : State) :
    (if c then a else b).ch = if c then a.ch else b.ch := apply_ite State.ch c a b
@[simp] theorem State.ite_cg (c : Prop) [Decidable c] (a b : State) :
    (if c then a else b).cg = if c then a.cg else b.cg := apply_ite State.cg c a b
@[simp] theorem State.ite_sa (c : Prop) [Decidable c] (a b : State) :
    (if c then a else b).sa = if c then a.sa else b.sa := apply_ite State.sa c a b
@[simp] theorem State.ite_rc (c : Prop) [Decidable c] (a b : State) :
    (if c then a else b).rc = if c then a.rc else b.rc := apply_ite State.rc c a b
@[simp] theorem State.ite_om (c : Prop) [Decidable c] (a b : State) :
    (if c then a else b).om = if c then a.om else b.om := apply_ite State.om c a b
@[simp] theorem State.ite_alarms (c : Prop) [Decidable c] (a b : State) :
    (if c then a else b).alarms = if c then a.alarms else b.alarms := apply_ite State.alarms c a b
@[simp] theorem State.ite_rl (c : Prop) [Decidable c] (a b : State) :
    (if c then a else b).rl = if c then a.rl else b.rl := apply_ite State.rl c a b
@[simp] theorem State.ite_ports (c : Prop) [Decidable c] (a b : State) :
    (if c then a else b).ports = if c then a.ports else b.ports := apply_ite State.ports c a b
@[simp] theorem State.ite_ss (c : Prop) [Decidable c] (a b : State) :
    (if c then a else b).ss = if c then a.ss else b.ss := apply_ite State.ss c a b
@[simp] theorem State.ite_work (c : Prop) [Decidable c] (a b : State) :
    (if c then a else b).work = if c then a.work else b.work := apply_ite State.work c a b
@[simp] theorem State.ite_pending (c : Prop) [Decidable c] (a b : State) :
    (if c then a else b).pending = if c then a.pending else b.pending := apply_ite State.pending c a b

/-- Frame of `State.appendRaw`. -/
@[simp] theorem State.appendRaw_frame (s : State) (b : Body) :
    (s.appendRaw b).uptime = s.uptime ∧ (s.appendRaw b).resetKind = s.resetKind ∧
      (s.appendRaw b).resetCause = s.resetCause ∧ (s.appendRaw b).liu = s.liu ∧ (s.appendRaw b).be = s.be ∧
      (s.appendRaw b).su = s.su ∧ (s.appendRaw b).ch = s.ch ∧ (s.appendRaw b).cg = s.cg ∧
      (s.appendRaw b).sa = s.sa ∧ (s.appendRaw b).rc = s.rc ∧ (s.appendRaw b).om = s.om ∧
      (s.appendRaw b).alarms = s.alarms ∧ (s.appendRaw b).ports = s.ports ∧ (s.appendRaw b).ss = s.ss ∧
      (s.appendRaw b).work = s.work ∧ (s.appendRaw b).pending = s.pending := by
  unfold State.appendRaw
  try dsimp only
  simp

/-- Frame of `State.postTable`. -/
@[simp] theorem State.postTable_frame (s : State) (n : Nat) (c : Bool) :
    (s.postTable n c).uptime = s.uptime ∧ (s.postTable n c).resetKind = s.resetKind ∧
      (s.postTable n c).resetCause = s.resetCause ∧ (s.postTable n c).liu = s.liu ∧
      (s.postTable n c).be = s.be ∧ (s.postTable n c).su = s.su ∧ (s.postTable n c).ch = s.ch ∧
      (s.postTable n c).cg = s.cg ∧ (s.postTable n c).sa = s.sa ∧ (s.postTable n c).rc = s.rc ∧
      (s.postTable n c).om = s.om ∧ (s.postTable n c).rl = s.rl ∧ (s.postTable n c).ports = s.ports ∧
      (s.postTable n c).ss = s.ss ∧ (s.postTable n c).work = s.work ∧ (s.postTable n c).pending = s.pending := by
  unfold State.postTable
  try dsimp only
  (repeat' split) <;> simp

/-- Frame of nested appends. -/
theorem appendFuel_frame (n : Nat) (b : Body) (s : State) :
    (appendFuel n b s).uptime = s.uptime ∧ (appendFuel n b s).resetKind = s.resetKind ∧
      (appendFuel n b s).resetCause = s.resetCause ∧ (appendFuel n b s).liu = s.liu ∧
      (appendFuel n b s).be = s.be ∧ (appendFuel n b s).su = s.su ∧ (appendFuel n b s).ch = s.ch ∧
      (appendFuel n b s).cg = s.cg ∧ (appendFuel n b s).sa = s.sa ∧ (appendFuel n b s).rc = s.rc ∧
      (appendFuel n b s).om = s.om ∧ (appendFuel n b s).ports = s.ports ∧ (appendFuel n b s).ss = s.ss ∧
      (appendFuel n b s).work = s.work ∧ (appendFuel n b s).pending = s.pending := by
  induction n generalizing b s with
  | zero => simp [appendFuel]
  | succ n ih =>
    unfold appendFuel
    dsimp only
    split
    · simp
    · split
      · simp
      · simp [ih]

/-- Frame of `State.append`. -/
@[simp] theorem State.append_frame (s : State) (b : Body) :
    (s.append b).uptime = s.uptime ∧ (s.append b).resetKind = s.resetKind ∧
      (s.append b).resetCause = s.resetCause ∧ (s.append b).liu = s.liu ∧ (s.append b).be = s.be ∧
      (s.append b).su = s.su ∧ (s.append b).ch = s.ch ∧ (s.append b).cg = s.cg ∧ (s.append b).sa = s.sa ∧
      (s.append b).rc = s.rc ∧ (s.append b).om = s.om ∧ (s.append b).ports = s.ports ∧ (s.append b).ss = s.ss ∧
      (s.append b).work = s.work ∧ (s.append b).pending = s.pending := by
  exact appendFuel_frame 3 b s

/-- Frame of `State.post`. -/
@[simp] theorem State.post_frame (s : State) (n : Nat) (c : Bool) :
    (s.post n c).uptime = s.uptime ∧ (s.post n c).resetKind = s.resetKind ∧
      (s.post n c).resetCause = s.resetCause ∧ (s.post n c).liu = s.liu ∧ (s.post n c).be = s.be ∧
      (s.post n c).su = s.su ∧ (s.post n c).ch = s.ch ∧ (s.post n c).cg = s.cg ∧ (s.post n c).sa = s.sa ∧
      (s.post n c).rc = s.rc ∧ (s.post n c).om = s.om ∧ (s.post n c).ports = s.ports ∧ (s.post n c).ss = s.ss ∧
      (s.post n c).work = s.work ∧ (s.post n c).pending = s.pending := by
  unfold State.post
  try dsimp only
  (repeat' split) <;> simp

/-- Frame of `State.evalFullAfterRelease`. -/
@[simp] theorem State.evalFullAfterRelease_frame (s : State) :
    (s.evalFullAfterRelease).uptime = s.uptime ∧ (s.evalFullAfterRelease).resetKind = s.resetKind ∧
      (s.evalFullAfterRelease).resetCause = s.resetCause ∧ (s.evalFullAfterRelease).liu = s.liu ∧
      (s.evalFullAfterRelease).be = s.be ∧ (s.evalFullAfterRelease).su = s.su ∧
      (s.evalFullAfterRelease).ch = s.ch ∧ (s.evalFullAfterRelease).cg = s.cg ∧
      (s.evalFullAfterRelease).sa = s.sa ∧ (s.evalFullAfterRelease).rc = s.rc ∧
      (s.evalFullAfterRelease).om = s.om ∧ (s.evalFullAfterRelease).ports = s.ports ∧
      (s.evalFullAfterRelease).ss = s.ss ∧ (s.evalFullAfterRelease).work = s.work ∧
      (s.evalFullAfterRelease).pending = s.pending := by
  unfold State.evalFullAfterRelease
  try dsimp only
  (repeat' split) <;> simp

/-- Frame of `State.ackPoint`. -/
@[simp] theorem State.ackPoint_frame (s : State) (p : Port) (n : Nat) :
    (s.ackPoint p n).uptime = s.uptime ∧ (s.ackPoint p n).resetKind = s.resetKind ∧
      (s.ackPoint p n).resetCause = s.resetCause ∧ (s.ackPoint p n).liu = s.liu ∧ (s.ackPoint p n).be = s.be ∧
      (s.ackPoint p n).su = s.su ∧ (s.ackPoint p n).ch = s.ch ∧ (s.ackPoint p n).cg = s.cg ∧
      (s.ackPoint p n).sa = s.sa ∧ (s.ackPoint p n).rc = s.rc ∧ (s.ackPoint p n).om = s.om ∧
      (s.ackPoint p n).ports = s.ports ∧ (s.ackPoint p n).ss = s.ss ∧ (s.ackPoint p n).work = s.work ∧
      (s.ackPoint p n).pending = s.pending := by
  unfold State.ackPoint
  try dsimp only
  (repeat' split) <;> simp

/-- Frame of `State.guardAsk`. -/
@[simp] theorem State.guardAsk_frame (s : State) (g : GuardPair) (m : Member) :
    (s.guardAsk g m).uptime = s.uptime ∧ (s.guardAsk g m).resetKind = s.resetKind ∧
      (s.guardAsk g m).resetCause = s.resetCause ∧ (s.guardAsk g m).liu = s.liu ∧ (s.guardAsk g m).be = s.be ∧
      (s.guardAsk g m).su = s.su ∧ (s.guardAsk g m).ch = s.ch ∧ (s.guardAsk g m).sa = s.sa ∧
      (s.guardAsk g m).rc = s.rc ∧ (s.guardAsk g m).om = s.om ∧ (s.guardAsk g m).alarms = s.alarms ∧
      (s.guardAsk g m).rl = s.rl ∧ (s.guardAsk g m).ports = s.ports ∧ (s.guardAsk g m).ss = s.ss ∧
      (s.guardAsk g m).work = s.work ∧ (s.guardAsk g m).pending = s.pending := by
  unfold State.guardAsk
  try dsimp only
  simp

/-- Frame of `State.guardRelease`. -/
@[simp] theorem State.guardRelease_frame (s : State) (g : GuardPair) (m : Member) :
    (s.guardRelease g m).uptime = s.uptime ∧ (s.guardRelease g m).resetKind = s.resetKind ∧
      (s.guardRelease g m).resetCause = s.resetCause ∧ (s.guardRelease g m).liu = s.liu ∧
      (s.guardRelease g m).be = s.be ∧ (s.guardRelease g m).su = s.su ∧ (s.guardRelease g m).ch = s.ch ∧
      (s.guardRelease g m).sa = s.sa ∧ (s.guardRelease g m).rc = s.rc ∧ (s.guardRelease g m).om = s.om ∧
      (s.guardRelease g m).alarms = s.alarms ∧ (s.guardRelease g m).rl = s.rl ∧
      (s.guardRelease g m).ports = s.ports ∧ (s.guardRelease g m).ss = s.ss ∧
      (s.guardRelease g m).work = s.work ∧ (s.guardRelease g m).pending = s.pending := by
  unfold State.guardRelease
  try dsimp only
  simp

/-- Frame of `State.releasePermit`. -/
@[simp] theorem State.releasePermit_frame (s : State) (h : Holder) :
    (s.releasePermit h).uptime = s.uptime ∧ (s.releasePermit h).resetKind = s.resetKind ∧
      (s.releasePermit h).resetCause = s.resetCause ∧ (s.releasePermit h).liu = s.liu ∧
      (s.releasePermit h).be = s.be ∧ (s.releasePermit h).su = s.su ∧ (s.releasePermit h).ch = s.ch ∧
      (s.releasePermit h).cg = s.cg ∧ (s.releasePermit h).rc = s.rc ∧ (s.releasePermit h).om = s.om ∧
      (s.releasePermit h).alarms = s.alarms ∧ (s.releasePermit h).rl = s.rl ∧
      (s.releasePermit h).ports = s.ports ∧ (s.releasePermit h).ss = s.ss ∧ (s.releasePermit h).work = s.work ∧
      (s.releasePermit h).pending = s.pending := by
  unfold State.releasePermit
  try dsimp only
  (repeat' split) <;> simp

/-- Frame of `State.staggerRun`. -/
@[simp] theorem State.staggerRun_frame (s : State) :
    (s.staggerRun).uptime = s.uptime ∧ (s.staggerRun).resetKind = s.resetKind ∧
      (s.staggerRun).resetCause = s.resetCause ∧ (s.staggerRun).liu = s.liu ∧ (s.staggerRun).be = s.be ∧
      (s.staggerRun).su = s.su ∧ (s.staggerRun).ch = s.ch ∧ (s.staggerRun).cg = s.cg ∧
      (s.staggerRun).rc = s.rc ∧ (s.staggerRun).om = s.om ∧ (s.staggerRun).alarms = s.alarms ∧
      (s.staggerRun).rl = s.rl ∧ (s.staggerRun).ports = s.ports ∧ (s.staggerRun).ss = s.ss ∧
      (s.staggerRun).work = s.work ∧ (s.staggerRun).pending = s.pending := by
  unfold State.staggerRun
  try dsimp only
  simp

end Sys2Proof.Machine
end

