-- ==== Sys2Proof/Laws/FrameRake.lean ====
section
/-! SUPPORT. Frames of the conditions of Flags and the rake: for each shared operation, the blocks of the state it
leaves as they were. -/

namespace Sys2Proof.Machine

/-- Frame of `State.evalHigh`. -/
@[simp] theorem State.evalHigh_frame (s : State) :
    (s.evalHigh).uptime = s.uptime ∧ (s.evalHigh).resetKind = s.resetKind ∧
      (s.evalHigh).resetCause = s.resetCause ∧ (s.evalHigh).be = s.be ∧ (s.evalHigh).su = s.su ∧
      (s.evalHigh).ch = s.ch ∧ (s.evalHigh).cg = s.cg ∧ (s.evalHigh).sa = s.sa ∧ (s.evalHigh).rc = s.rc ∧
      (s.evalHigh).om = s.om ∧ (s.evalHigh).ports = s.ports ∧ (s.evalHigh).ss = s.ss ∧
      (s.evalHigh).work = s.work ∧ (s.evalHigh).pending = s.pending := by
  unfold State.evalHigh
  try dsimp only
  simp

/-- Frame of `State.postSensor`. -/
@[simp] theorem State.postSensor_frame (s : State) (c : Loop) :
    (s.postSensor c).uptime = s.uptime ∧ (s.postSensor c).resetKind = s.resetKind ∧
      (s.postSensor c).resetCause = s.resetCause ∧ (s.postSensor c).liu = s.liu ∧ (s.postSensor c).be = s.be ∧
      (s.postSensor c).su = s.su ∧ (s.postSensor c).ch = s.ch ∧ (s.postSensor c).cg = s.cg ∧
      (s.postSensor c).sa = s.sa ∧ (s.postSensor c).rc = s.rc ∧ (s.postSensor c).om = s.om ∧
      (s.postSensor c).ports = s.ports ∧ (s.postSensor c).ss = s.ss ∧ (s.postSensor c).work = s.work ∧
      (s.postSensor c).pending = s.pending := by
  unfold State.postSensor
  try dsimp only
  (repeat' split) <;> simp

/-- Frame of `State.postHighHigh`. -/
@[simp] theorem State.postHighHigh_frame (s : State) :
    (s.postHighHigh).uptime = s.uptime ∧ (s.postHighHigh).resetKind = s.resetKind ∧
      (s.postHighHigh).resetCause = s.resetCause ∧ (s.postHighHigh).liu = s.liu ∧ (s.postHighHigh).be = s.be ∧
      (s.postHighHigh).su = s.su ∧ (s.postHighHigh).ch = s.ch ∧ (s.postHighHigh).cg = s.cg ∧
      (s.postHighHigh).sa = s.sa ∧ (s.postHighHigh).rc = s.rc ∧ (s.postHighHigh).om = s.om ∧
      (s.postHighHigh).ports = s.ports ∧ (s.postHighHigh).ss = s.ss ∧ (s.postHighHigh).work = s.work ∧
      (s.postHighHigh).pending = s.pending := by
  unfold State.postHighHigh
  try dsimp only
  simp

/-- Frame of `State.postLeak`. -/
@[simp] theorem State.postLeak_frame (s : State) (p : Pump) :
    (s.postLeak p).uptime = s.uptime ∧ (s.postLeak p).resetKind = s.resetKind ∧
      (s.postLeak p).resetCause = s.resetCause ∧ (s.postLeak p).liu = s.liu ∧ (s.postLeak p).be = s.be ∧
      (s.postLeak p).su = s.su ∧ (s.postLeak p).ch = s.ch ∧ (s.postLeak p).cg = s.cg ∧
      (s.postLeak p).sa = s.sa ∧ (s.postLeak p).rc = s.rc ∧ (s.postLeak p).om = s.om ∧
      (s.postLeak p).ports = s.ports ∧ (s.postLeak p).ss = s.ss ∧ (s.postLeak p).work = s.work ∧
      (s.postLeak p).pending = s.pending := by
  unfold State.postLeak
  try dsimp only
  simp

/-- Frame of `State.evalDisagree`. -/
@[simp] theorem State.evalDisagree_frame (s : State) :
    (s.evalDisagree).uptime = s.uptime ∧ (s.evalDisagree).resetKind = s.resetKind ∧
      (s.evalDisagree).resetCause = s.resetCause ∧ (s.evalDisagree).be = s.be ∧ (s.evalDisagree).su = s.su ∧
      (s.evalDisagree).ch = s.ch ∧ (s.evalDisagree).cg = s.cg ∧ (s.evalDisagree).sa = s.sa ∧
      (s.evalDisagree).rc = s.rc ∧ (s.evalDisagree).om = s.om ∧ (s.evalDisagree).alarms = s.alarms ∧
      (s.evalDisagree).rl = s.rl ∧ (s.evalDisagree).ports = s.ports ∧ (s.evalDisagree).ss = s.ss ∧
      (s.evalDisagree).work = s.work ∧ (s.evalDisagree).pending = s.pending := by
  unfold State.evalDisagree
  try dsimp only
  simp

/-- Frame of `State.reportIfWaiting`. -/
@[simp] theorem State.reportIfWaiting_frame (s : State) :
    (s.reportIfWaiting).uptime = s.uptime ∧ (s.reportIfWaiting).resetKind = s.resetKind ∧
      (s.reportIfWaiting).resetCause = s.resetCause ∧ (s.reportIfWaiting).liu = s.liu ∧
      (s.reportIfWaiting).be = s.be ∧ (s.reportIfWaiting).su = s.su ∧ (s.reportIfWaiting).ch = s.ch ∧
      (s.reportIfWaiting).cg = s.cg ∧ (s.reportIfWaiting).sa = s.sa ∧ (s.reportIfWaiting).rc = s.rc ∧
      (s.reportIfWaiting).om = s.om ∧ (s.reportIfWaiting).alarms = s.alarms ∧ (s.reportIfWaiting).rl = s.rl ∧
      (s.reportIfWaiting).ports = s.ports ∧ (s.reportIfWaiting).ss = s.ss ∧
      (s.reportIfWaiting).pending = s.pending := by
  unfold State.reportIfWaiting
  try dsimp only
  (repeat' split) <;> simp

/-- Frame of `State.evalForced`. -/
@[simp] theorem State.evalForced_frame (s : State) :
    (s.evalForced).uptime = s.uptime ∧ (s.evalForced).resetKind = s.resetKind ∧
      (s.evalForced).resetCause = s.resetCause ∧ (s.evalForced).liu = s.liu ∧ (s.evalForced).be = s.be ∧
      (s.evalForced).su = s.su ∧ (s.evalForced).ch = s.ch ∧ (s.evalForced).cg = s.cg ∧
      (s.evalForced).sa = s.sa ∧ (s.evalForced).om = s.om ∧ (s.evalForced).alarms = s.alarms ∧
      (s.evalForced).rl = s.rl ∧ (s.evalForced).ports = s.ports ∧ (s.evalForced).ss = s.ss ∧
      (s.evalForced).pending = s.pending := by
  unfold State.evalForced
  try dsimp only
  (repeat' split) <;> simp

/-- Frame of `State.rakeWait`. -/
@[simp] theorem State.rakeWait_frame (s : State) (pp : Purpose) :
    (s.rakeWait pp).uptime = s.uptime ∧ (s.rakeWait pp).resetKind = s.resetKind ∧
      (s.rakeWait pp).resetCause = s.resetCause ∧ (s.rakeWait pp).liu = s.liu ∧ (s.rakeWait pp).be = s.be ∧
      (s.rakeWait pp).su = s.su ∧ (s.rakeWait pp).ch = s.ch ∧ (s.rakeWait pp).cg = s.cg ∧
      (s.rakeWait pp).sa = s.sa ∧ (s.rakeWait pp).om = s.om ∧ (s.rakeWait pp).alarms = s.alarms ∧
      (s.rakeWait pp).rl = s.rl ∧ (s.rakeWait pp).ports = s.ports ∧ (s.rakeWait pp).ss = s.ss ∧
      (s.rakeWait pp).pending = s.pending := by
  unfold State.rakeWait
  try dsimp only
  simp

/-- Frame of `State.rakePark`. -/
@[simp] theorem State.rakePark_frame (s : State) :
    (s.rakePark).uptime = s.uptime ∧ (s.rakePark).resetKind = s.resetKind ∧
      (s.rakePark).resetCause = s.resetCause ∧ (s.rakePark).liu = s.liu ∧ (s.rakePark).be = s.be ∧
      (s.rakePark).su = s.su ∧ (s.rakePark).ch = s.ch ∧ (s.rakePark).cg = s.cg ∧ (s.rakePark).sa = s.sa ∧
      (s.rakePark).om = s.om ∧ (s.rakePark).alarms = s.alarms ∧ (s.rakePark).rl = s.rl ∧
      (s.rakePark).ports = s.ports ∧ (s.rakePark).ss = s.ss ∧ (s.rakePark).pending = s.pending := by
  unfold State.rakePark
  try dsimp only
  (repeat' split) <;> simp

/-- Frame of `State.setOwed`. -/
@[simp] theorem State.setOwed_frame (s : State) (n : Nat) :
    (s.setOwed n).uptime = s.uptime ∧ (s.setOwed n).resetKind = s.resetKind ∧
      (s.setOwed n).resetCause = s.resetCause ∧ (s.setOwed n).liu = s.liu ∧ (s.setOwed n).be = s.be ∧
      (s.setOwed n).su = s.su ∧ (s.setOwed n).ch = s.ch ∧ (s.setOwed n).cg = s.cg ∧ (s.setOwed n).sa = s.sa ∧
      (s.setOwed n).om = s.om ∧ (s.setOwed n).alarms = s.alarms ∧ (s.setOwed n).rl = s.rl ∧
      (s.setOwed n).ports = s.ports ∧ (s.setOwed n).ss = s.ss ∧ (s.setOwed n).pending = s.pending := by
  unfold State.setOwed
  try dsimp only
  (repeat' split) <;> simp

/-- Frame of `State.rakeAdd`. -/
@[simp] theorem State.rakeAdd_frame (s : State) :
    (s.rakeAdd).uptime = s.uptime ∧ (s.rakeAdd).resetKind = s.resetKind ∧
      (s.rakeAdd).resetCause = s.resetCause ∧ (s.rakeAdd).liu = s.liu ∧ (s.rakeAdd).be = s.be ∧
      (s.rakeAdd).su = s.su ∧ (s.rakeAdd).ch = s.ch ∧ (s.rakeAdd).cg = s.cg ∧ (s.rakeAdd).sa = s.sa ∧
      (s.rakeAdd).om = s.om ∧ (s.rakeAdd).alarms = s.alarms ∧ (s.rakeAdd).rl = s.rl ∧
      (s.rakeAdd).ports = s.ports ∧ (s.rakeAdd).ss = s.ss ∧ (s.rakeAdd).pending = s.pending := by
  unfold State.rakeAdd
  try dsimp only
  (repeat' split) <;> simp

/-- Frame of `State.rakeStopped`. -/
@[simp] theorem State.rakeStopped_frame (s : State) :
    (s.rakeStopped).uptime = s.uptime ∧ (s.rakeStopped).resetKind = s.resetKind ∧
      (s.rakeStopped).resetCause = s.resetCause ∧ (s.rakeStopped).liu = s.liu ∧ (s.rakeStopped).be = s.be ∧
      (s.rakeStopped).su = s.su ∧ (s.rakeStopped).ch = s.ch ∧ (s.rakeStopped).cg = s.cg ∧
      (s.rakeStopped).om = s.om ∧ (s.rakeStopped).alarms = s.alarms ∧ (s.rakeStopped).rl = s.rl ∧
      (s.rakeStopped).ports = s.ports ∧ (s.rakeStopped).ss = s.ss ∧ (s.rakeStopped).work = s.work ∧
      (s.rakeStopped).pending = s.pending := by
  unfold State.rakeStopped
  try dsimp only
  simp

/-- Frame of `State.rakeDrop`. -/
@[simp] theorem State.rakeDrop_frame (s : State) :
    (s.rakeDrop).uptime = s.uptime ∧ (s.rakeDrop).resetKind = s.resetKind ∧
      (s.rakeDrop).resetCause = s.resetCause ∧ (s.rakeDrop).liu = s.liu ∧ (s.rakeDrop).be = s.be ∧
      (s.rakeDrop).su = s.su ∧ (s.rakeDrop).ch = s.ch ∧ (s.rakeDrop).sa = s.sa ∧ (s.rakeDrop).rc = s.rc ∧
      (s.rakeDrop).om = s.om ∧ (s.rakeDrop).alarms = s.alarms ∧ (s.rakeDrop).rl = s.rl ∧
      (s.rakeDrop).ports = s.ports ∧ (s.rakeDrop).ss = s.ss ∧ (s.rakeDrop).work = s.work ∧
      (s.rakeDrop).pending = s.pending := by
  unfold State.rakeDrop
  try dsimp only
  simp

/-- Frame of `State.rakeClearTimers`. -/
@[simp] theorem State.rakeClearTimers_frame (s : State) :
    (s.rakeClearTimers).uptime = s.uptime ∧ (s.rakeClearTimers).resetKind = s.resetKind ∧
      (s.rakeClearTimers).resetCause = s.resetCause ∧ (s.rakeClearTimers).liu = s.liu ∧
      (s.rakeClearTimers).be = s.be ∧ (s.rakeClearTimers).su = s.su ∧ (s.rakeClearTimers).ch = s.ch ∧
      (s.rakeClearTimers).cg = s.cg ∧ (s.rakeClearTimers).sa = s.sa ∧ (s.rakeClearTimers).om = s.om ∧
      (s.rakeClearTimers).alarms = s.alarms ∧ (s.rakeClearTimers).rl = s.rl ∧
      (s.rakeClearTimers).ports = s.ports ∧ (s.rakeClearTimers).ss = s.ss ∧ (s.rakeClearTimers).work = s.work ∧
      (s.rakeClearTimers).pending = s.pending := by
  unfold State.rakeClearTimers
  try dsimp only
  simp

/-- Frame of `State.rakeLock`. -/
@[simp] theorem State.rakeLock_frame (s : State) (c : LockCause) :
    (s.rakeLock c).uptime = s.uptime ∧ (s.rakeLock c).resetKind = s.resetKind ∧
      (s.rakeLock c).resetCause = s.resetCause ∧ (s.rakeLock c).liu = s.liu ∧ (s.rakeLock c).be = s.be ∧
      (s.rakeLock c).su = s.su ∧ (s.rakeLock c).ch = s.ch ∧ (s.rakeLock c).om = s.om ∧
      (s.rakeLock c).ports = s.ports ∧ (s.rakeLock c).ss = s.ss ∧ (s.rakeLock c).work = s.work ∧
      (s.rakeLock c).pending = s.pending := by
  unfold State.rakeLock
  try dsimp only
  (repeat' split) <;> simp

/-- Frame of `State.rakeMoves`. -/
@[simp] theorem State.rakeMoves_frame (s : State) (m : Member) :
    (s.rakeMoves m).uptime = s.uptime ∧ (s.rakeMoves m).resetKind = s.resetKind ∧
      (s.rakeMoves m).resetCause = s.resetCause ∧ (s.rakeMoves m).liu = s.liu ∧ (s.rakeMoves m).be = s.be ∧
      (s.rakeMoves m).su = s.su ∧ (s.rakeMoves m).ch = s.ch ∧ (s.rakeMoves m).cg = s.cg ∧
      (s.rakeMoves m).om = s.om ∧ (s.rakeMoves m).alarms = s.alarms ∧ (s.rakeMoves m).rl = s.rl ∧
      (s.rakeMoves m).ports = s.ports ∧ (s.rakeMoves m).ss = s.ss ∧ (s.rakeMoves m).work = s.work ∧
      (s.rakeMoves m).pending = s.pending := by
  unfold State.rakeMoves
  try dsimp only
  (repeat' split) <;> simp

/-- Frame of `State.rakeAsk`. -/
@[simp] theorem State.rakeAsk_frame (s : State) (m : Member) :
    (s.rakeAsk m).uptime = s.uptime ∧ (s.rakeAsk m).resetKind = s.resetKind ∧
      (s.rakeAsk m).resetCause = s.resetCause ∧ (s.rakeAsk m).liu = s.liu ∧ (s.rakeAsk m).be = s.be ∧
      (s.rakeAsk m).su = s.su ∧ (s.rakeAsk m).ch = s.ch ∧ (s.rakeAsk m).om = s.om ∧
      (s.rakeAsk m).alarms = s.alarms ∧ (s.rakeAsk m).rl = s.rl ∧ (s.rakeAsk m).ports = s.ports ∧
      (s.rakeAsk m).ss = s.ss ∧ (s.rakeAsk m).work = s.work ∧ (s.rakeAsk m).pending = s.pending := by
  unfold State.rakeAsk
  try dsimp only
  (repeat' split) <;> simp

/-- Frame of `State.rakeRaise`. -/
@[simp] theorem State.rakeRaise_frame (s : State) :
    (s.rakeRaise).uptime = s.uptime ∧ (s.rakeRaise).resetKind = s.resetKind ∧
      (s.rakeRaise).resetCause = s.resetCause ∧ (s.rakeRaise).liu = s.liu ∧ (s.rakeRaise).be = s.be ∧
      (s.rakeRaise).su = s.su ∧ (s.rakeRaise).ch = s.ch ∧ (s.rakeRaise).om = s.om ∧
      (s.rakeRaise).alarms = s.alarms ∧ (s.rakeRaise).rl = s.rl ∧ (s.rakeRaise).ports = s.ports ∧
      (s.rakeRaise).ss = s.ss ∧ (s.rakeRaise).work = s.work ∧ (s.rakeRaise).pending = s.pending := by
  unfold State.rakeRaise
  try dsimp only
  simp

/-- Frame of `State.setInterval`. -/
@[simp] theorem State.setInterval_frame (s : State) :
    (s.setInterval).uptime = s.uptime ∧ (s.setInterval).resetKind = s.resetKind ∧
      (s.setInterval).resetCause = s.resetCause ∧ (s.setInterval).liu = s.liu ∧ (s.setInterval).be = s.be ∧
      (s.setInterval).su = s.su ∧ (s.setInterval).ch = s.ch ∧ (s.setInterval).cg = s.cg ∧
      (s.setInterval).sa = s.sa ∧ (s.setInterval).om = s.om ∧ (s.setInterval).alarms = s.alarms ∧
      (s.setInterval).rl = s.rl ∧ (s.setInterval).ports = s.ports ∧ (s.setInterval).ss = s.ss ∧
      (s.setInterval).work = s.work ∧ (s.setInterval).pending = s.pending := by
  unfold State.setInterval
  try dsimp only
  (repeat' split) <;> simp

/-- Frame of `State.rakeComplete`. -/
@[simp] theorem State.rakeComplete_frame (s : State) :
    (s.rakeComplete).uptime = s.uptime ∧ (s.rakeComplete).resetKind = s.resetKind ∧
      (s.rakeComplete).resetCause = s.resetCause ∧ (s.rakeComplete).liu = s.liu ∧ (s.rakeComplete).be = s.be ∧
      (s.rakeComplete).su = s.su ∧ (s.rakeComplete).ch = s.ch ∧ (s.rakeComplete).cg = s.cg ∧
      (s.rakeComplete).sa = s.sa ∧ (s.rakeComplete).om = s.om ∧ (s.rakeComplete).alarms = s.alarms ∧
      (s.rakeComplete).rl = s.rl ∧ (s.rakeComplete).ports = s.ports ∧ (s.rakeComplete).ss = s.ss ∧
      (s.rakeComplete).pending = s.pending := by
  unfold State.rakeComplete
  try dsimp only
  simp

/-- Frame of `State.rakeDischarge`. -/
@[simp] theorem State.rakeDischarge_frame (s : State) :
    (s.rakeDischarge).uptime = s.uptime ∧ (s.rakeDischarge).resetKind = s.resetKind ∧
      (s.rakeDischarge).resetCause = s.resetCause ∧ (s.rakeDischarge).liu = s.liu ∧
      (s.rakeDischarge).be = s.be ∧ (s.rakeDischarge).su = s.su ∧ (s.rakeDischarge).ch = s.ch ∧
      (s.rakeDischarge).om = s.om ∧ (s.rakeDischarge).alarms = s.alarms ∧ (s.rakeDischarge).rl = s.rl ∧
      (s.rakeDischarge).ports = s.ports ∧ (s.rakeDischarge).ss = s.ss ∧ (s.rakeDischarge).pending = s.pending := by
  unfold State.rakeDischarge
  try dsimp only
  (repeat' split) <;> simp

/-- Frame of `State.rakeGranted`. -/
@[simp] theorem State.rakeGranted_frame (s : State) :
    (s.rakeGranted).uptime = s.uptime ∧ (s.rakeGranted).resetKind = s.resetKind ∧
      (s.rakeGranted).resetCause = s.resetCause ∧ (s.rakeGranted).liu = s.liu ∧ (s.rakeGranted).be = s.be ∧
      (s.rakeGranted).su = s.su ∧ (s.rakeGranted).ch = s.ch ∧ (s.rakeGranted).om = s.om ∧
      (s.rakeGranted).ports = s.ports ∧ (s.rakeGranted).ss = s.ss ∧ (s.rakeGranted).pending = s.pending := by
  unfold State.rakeGranted
  try dsimp only
  (repeat' split) <;> simp

/-- Frame of `State.rakeTopActive`. -/
@[simp] theorem State.rakeTopActive_frame (s : State) :
    (s.rakeTopActive).uptime = s.uptime ∧ (s.rakeTopActive).resetKind = s.resetKind ∧
      (s.rakeTopActive).resetCause = s.resetCause ∧ (s.rakeTopActive).liu = s.liu ∧
      (s.rakeTopActive).be = s.be ∧ (s.rakeTopActive).su = s.su ∧ (s.rakeTopActive).ch = s.ch ∧
      (s.rakeTopActive).om = s.om ∧ (s.rakeTopActive).alarms = s.alarms ∧ (s.rakeTopActive).rl = s.rl ∧
      (s.rakeTopActive).ports = s.ports ∧ (s.rakeTopActive).ss = s.ss ∧ (s.rakeTopActive).pending = s.pending := by
  unfold State.rakeTopActive
  try dsimp only
  (repeat' split) <;> simp

/-- Frame of `State.rakeBottomActive`. -/
@[simp] theorem State.rakeBottomActive_frame (s : State) :
    (s.rakeBottomActive).uptime = s.uptime ∧ (s.rakeBottomActive).resetKind = s.resetKind ∧
      (s.rakeBottomActive).resetCause = s.resetCause ∧ (s.rakeBottomActive).liu = s.liu ∧
      (s.rakeBottomActive).be = s.be ∧ (s.rakeBottomActive).su = s.su ∧ (s.rakeBottomActive).ch = s.ch ∧
      (s.rakeBottomActive).om = s.om ∧ (s.rakeBottomActive).alarms = s.alarms ∧
      (s.rakeBottomActive).rl = s.rl ∧ (s.rakeBottomActive).ports = s.ports ∧ (s.rakeBottomActive).ss = s.ss ∧
      (s.rakeBottomActive).work = s.work ∧ (s.rakeBottomActive).pending = s.pending := by
  unfold State.rakeBottomActive
  try dsimp only
  (repeat' split) <;> simp

/-- Frame of `State.rakeOverloadActive`. -/
@[simp] theorem State.rakeOverloadActive_frame (s : State) :
    (s.rakeOverloadActive).uptime = s.uptime ∧ (s.rakeOverloadActive).resetKind = s.resetKind ∧
      (s.rakeOverloadActive).resetCause = s.resetCause ∧ (s.rakeOverloadActive).liu = s.liu ∧
      (s.rakeOverloadActive).be = s.be ∧ (s.rakeOverloadActive).su = s.su ∧ (s.rakeOverloadActive).ch = s.ch ∧
      (s.rakeOverloadActive).om = s.om ∧ (s.rakeOverloadActive).ports = s.ports ∧
      (s.rakeOverloadActive).ss = s.ss ∧ (s.rakeOverloadActive).work = s.work ∧
      (s.rakeOverloadActive).pending = s.pending := by
  unfold State.rakeOverloadActive
  try dsimp only
  (repeat' split) <;> simp

/-- Frame of `State.rakeBackoffEnd`. -/
@[simp] theorem State.rakeBackoffEnd_frame (s : State) :
    (s.rakeBackoffEnd).uptime = s.uptime ∧ (s.rakeBackoffEnd).resetKind = s.resetKind ∧
      (s.rakeBackoffEnd).resetCause = s.resetCause ∧ (s.rakeBackoffEnd).liu = s.liu ∧
      (s.rakeBackoffEnd).be = s.be ∧ (s.rakeBackoffEnd).su = s.su ∧ (s.rakeBackoffEnd).ch = s.ch ∧
      (s.rakeBackoffEnd).om = s.om ∧ (s.rakeBackoffEnd).ports = s.ports ∧ (s.rakeBackoffEnd).ss = s.ss ∧
      (s.rakeBackoffEnd).work = s.work ∧ (s.rakeBackoffEnd).pending = s.pending := by
  unfold State.rakeBackoffEnd
  try dsimp only
  (repeat' split) <;> simp

/-- Frame of `State.rakePlace`. -/
@[simp] theorem State.rakePlace_frame (s : State) :
    (s.rakePlace).uptime = s.uptime ∧ (s.rakePlace).resetKind = s.resetKind ∧
      (s.rakePlace).resetCause = s.resetCause ∧ (s.rakePlace).liu = s.liu ∧ (s.rakePlace).be = s.be ∧
      (s.rakePlace).su = s.su ∧ (s.rakePlace).ch = s.ch ∧ (s.rakePlace).cg = s.cg ∧ (s.rakePlace).sa = s.sa ∧
      (s.rakePlace).om = s.om ∧ (s.rakePlace).alarms = s.alarms ∧ (s.rakePlace).rl = s.rl ∧
      (s.rakePlace).ports = s.ports ∧ (s.rakePlace).ss = s.ss ∧ (s.rakePlace).pending = s.pending := by
  unfold State.rakePlace
  try dsimp only
  (repeat' split) <;> simp

/-- Frame of `State.rakeSelector`. -/
@[simp] theorem State.rakeSelector_frame (s : State) :
    (s.rakeSelector).uptime = s.uptime ∧ (s.rakeSelector).resetKind = s.resetKind ∧
      (s.rakeSelector).resetCause = s.resetCause ∧ (s.rakeSelector).liu = s.liu ∧ (s.rakeSelector).be = s.be ∧
      (s.rakeSelector).su = s.su ∧ (s.rakeSelector).ch = s.ch ∧ (s.rakeSelector).om = s.om ∧
      (s.rakeSelector).alarms = s.alarms ∧ (s.rakeSelector).rl = s.rl ∧ (s.rakeSelector).ports = s.ports ∧
      (s.rakeSelector).ss = s.ss ∧ (s.rakeSelector).pending = s.pending := by
  unfold State.rakeSelector
  try dsimp only
  (repeat' split) <;> simp

/-- Frame of `State.rakeDead`. -/
@[simp] theorem State.rakeDead_frame (s : State) :
    (s.rakeDead).uptime = s.uptime ∧ (s.rakeDead).resetKind = s.resetKind ∧
      (s.rakeDead).resetCause = s.resetCause ∧ (s.rakeDead).liu = s.liu ∧ (s.rakeDead).be = s.be ∧
      (s.rakeDead).su = s.su ∧ (s.rakeDead).ch = s.ch ∧ (s.rakeDead).om = s.om ∧
      (s.rakeDead).alarms = s.alarms ∧ (s.rakeDead).rl = s.rl ∧ (s.rakeDead).ports = s.ports ∧
      (s.rakeDead).ss = s.ss ∧ (s.rakeDead).pending = s.pending := by
  unfold State.rakeDead
  try dsimp only
  (repeat' split) <;> simp

/-- Frame of `State.rakeUnlock`. -/
@[simp] theorem State.rakeUnlock_frame (s : State) :
    (s.rakeUnlock).uptime = s.uptime ∧ (s.rakeUnlock).resetKind = s.resetKind ∧
      (s.rakeUnlock).resetCause = s.resetCause ∧ (s.rakeUnlock).liu = s.liu ∧ (s.rakeUnlock).be = s.be ∧
      (s.rakeUnlock).su = s.su ∧ (s.rakeUnlock).ch = s.ch ∧ (s.rakeUnlock).cg = s.cg ∧
      (s.rakeUnlock).sa = s.sa ∧ (s.rakeUnlock).om = s.om ∧ (s.rakeUnlock).ports = s.ports ∧
      (s.rakeUnlock).ss = s.ss ∧ (s.rakeUnlock).pending = s.pending := by
  unfold State.rakeUnlock
  try dsimp only
  (repeat' split) <;> simp

/-- Frame of `State.evalBlinding`. -/
@[simp] theorem State.evalBlinding_frame (s : State) (v : Nat) :
    (s.evalBlinding v).uptime = s.uptime ∧ (s.evalBlinding v).resetKind = s.resetKind ∧
      (s.evalBlinding v).resetCause = s.resetCause ∧ (s.evalBlinding v).liu = s.liu ∧
      (s.evalBlinding v).be = s.be ∧ (s.evalBlinding v).su = s.su ∧ (s.evalBlinding v).ch = s.ch ∧
      (s.evalBlinding v).cg = s.cg ∧ (s.evalBlinding v).sa = s.sa ∧ (s.evalBlinding v).om = s.om ∧
      (s.evalBlinding v).ports = s.ports ∧ (s.evalBlinding v).ss = s.ss ∧ (s.evalBlinding v).work = s.work ∧
      (s.evalBlinding v).pending = s.pending := by
  unfold State.evalBlinding
  try dsimp only
  (repeat' split) <;> simp

/-- Frame of `State.evalStart`. -/
@[simp] theorem State.evalStart_frame (s : State) (v : Nat) :
    (s.evalStart v).uptime = s.uptime ∧ (s.evalStart v).resetKind = s.resetKind ∧
      (s.evalStart v).resetCause = s.resetCause ∧ (s.evalStart v).liu = s.liu ∧ (s.evalStart v).be = s.be ∧
      (s.evalStart v).su = s.su ∧ (s.evalStart v).ch = s.ch ∧ (s.evalStart v).cg = s.cg ∧
      (s.evalStart v).sa = s.sa ∧ (s.evalStart v).om = s.om ∧ (s.evalStart v).alarms = s.alarms ∧
      (s.evalStart v).rl = s.rl ∧ (s.evalStart v).ports = s.ports ∧ (s.evalStart v).ss = s.ss ∧
      (s.evalStart v).pending = s.pending := by
  unfold State.evalStart
  try dsimp only
  (repeat' split) <;> simp

/-- Frame of `State.rakeDiff`. -/
@[simp] theorem State.rakeDiff_frame (s : State) :
    (s.rakeDiff).uptime = s.uptime ∧ (s.rakeDiff).resetKind = s.resetKind ∧
      (s.rakeDiff).resetCause = s.resetCause ∧ (s.rakeDiff).liu = s.liu ∧ (s.rakeDiff).be = s.be ∧
      (s.rakeDiff).su = s.su ∧ (s.rakeDiff).ch = s.ch ∧ (s.rakeDiff).cg = s.cg ∧ (s.rakeDiff).sa = s.sa ∧
      (s.rakeDiff).om = s.om ∧ (s.rakeDiff).ports = s.ports ∧ (s.rakeDiff).ss = s.ss ∧
      (s.rakeDiff).pending = s.pending := by
  unfold State.rakeDiff
  try dsimp only
  (repeat' split) <;> simp

end Sys2Proof.Machine
end

