-- ==== Sys2Proof/Laws/FrameStarter.lean ====
section
/-! SUPPORT. Frames of the starter channels: for each shared operation, the blocks of the state it
leaves as they were. -/

namespace Sys2Proof.Machine

/-- Frame of `State.discardStart`. -/
@[simp] theorem State.discardStart_frame (s : State) (p : Pump) :
    (s.discardStart p).uptime = s.uptime ∧ (s.discardStart p).resetKind = s.resetKind ∧
      (s.discardStart p).resetCause = s.resetCause ∧ (s.discardStart p).liu = s.liu ∧
      (s.discardStart p).be = s.be ∧ (s.discardStart p).cg = s.cg ∧ (s.discardStart p).sa = s.sa ∧
      (s.discardStart p).rc = s.rc ∧ (s.discardStart p).om = s.om ∧ (s.discardStart p).alarms = s.alarms ∧
      (s.discardStart p).rl = s.rl ∧ (s.discardStart p).ports = s.ports ∧ (s.discardStart p).ss = s.ss ∧
      (s.discardStart p).work = s.work ∧ (s.discardStart p).pending = s.pending := by
  unfold State.discardStart
  try dsimp only
  (repeat' split) <;> simp

/-- Frame of `State.leaveQueues`. -/
@[simp] theorem State.leaveQueues_frame (s : State) (p : Pump) :
    (s.leaveQueues p).uptime = s.uptime ∧ (s.leaveQueues p).resetKind = s.resetKind ∧
      (s.leaveQueues p).resetCause = s.resetCause ∧ (s.leaveQueues p).liu = s.liu ∧
      (s.leaveQueues p).be = s.be ∧ (s.leaveQueues p).su = s.su ∧ (s.leaveQueues p).ch = s.ch ∧
      (s.leaveQueues p).cg = s.cg ∧ (s.leaveQueues p).rc = s.rc ∧ (s.leaveQueues p).om = s.om ∧
      (s.leaveQueues p).alarms = s.alarms ∧ (s.leaveQueues p).rl = s.rl ∧ (s.leaveQueues p).ports = s.ports ∧
      (s.leaveQueues p).ss = s.ss ∧ (s.leaveQueues p).work = s.work ∧ (s.leaveQueues p).pending = s.pending := by
  unfold State.leaveQueues
  try dsimp only
  simp

/-- Frame of `State.testJoin`. -/
@[simp] theorem State.testJoin_frame (s : State) (p : Pump) :
    (s.testJoin p).uptime = s.uptime ∧ (s.testJoin p).resetKind = s.resetKind ∧
      (s.testJoin p).resetCause = s.resetCause ∧ (s.testJoin p).liu = s.liu ∧ (s.testJoin p).be = s.be ∧
      (s.testJoin p).su = s.su ∧ (s.testJoin p).cg = s.cg ∧ (s.testJoin p).rc = s.rc ∧
      (s.testJoin p).om = s.om ∧ (s.testJoin p).alarms = s.alarms ∧ (s.testJoin p).rl = s.rl ∧
      (s.testJoin p).ports = s.ports ∧ (s.testJoin p).ss = s.ss ∧ (s.testJoin p).pending = s.pending := by
  unfold State.testJoin
  try dsimp only
  (repeat' split) <;> simp

/-- Frame of `State.goIdle`. -/
@[simp] theorem State.goIdle_frame (s : State) (p : Pump) :
    (s.goIdle p).uptime = s.uptime ∧ (s.goIdle p).resetKind = s.resetKind ∧
      (s.goIdle p).resetCause = s.resetCause ∧ (s.goIdle p).liu = s.liu ∧ (s.goIdle p).be = s.be ∧
      (s.goIdle p).su = s.su ∧ (s.goIdle p).cg = s.cg ∧ (s.goIdle p).rc = s.rc ∧ (s.goIdle p).om = s.om ∧
      (s.goIdle p).alarms = s.alarms ∧ (s.goIdle p).rl = s.rl ∧ (s.goIdle p).ports = s.ports ∧
      (s.goIdle p).ss = s.ss ∧ (s.goIdle p).pending = s.pending := by
  unfold State.goIdle
  try dsimp only
  simp

/-- Frame of `State.dropOutputs`. -/
@[simp] theorem State.dropOutputs_frame (s : State) (p : Pump) :
    (s.dropOutputs p).uptime = s.uptime ∧ (s.dropOutputs p).resetKind = s.resetKind ∧
      (s.dropOutputs p).resetCause = s.resetCause ∧ (s.dropOutputs p).liu = s.liu ∧
      (s.dropOutputs p).be = s.be ∧ (s.dropOutputs p).su = s.su ∧ (s.dropOutputs p).sa = s.sa ∧
      (s.dropOutputs p).rc = s.rc ∧ (s.dropOutputs p).om = s.om ∧ (s.dropOutputs p).alarms = s.alarms ∧
      (s.dropOutputs p).rl = s.rl ∧ (s.dropOutputs p).ports = s.ports ∧ (s.dropOutputs p).ss = s.ss ∧
      (s.dropOutputs p).pending = s.pending := by
  unfold State.dropOutputs
  try dsimp only
  (repeat' split) <;> simp

/-- Frame of `State.standDown`. -/
@[simp] theorem State.standDown_frame (s : State) (p : Pump) :
    (s.standDown p).uptime = s.uptime ∧ (s.standDown p).resetKind = s.resetKind ∧
      (s.standDown p).resetCause = s.resetCause ∧ (s.standDown p).liu = s.liu ∧ (s.standDown p).be = s.be ∧
      (s.standDown p).su = s.su ∧ (s.standDown p).rc = s.rc ∧ (s.standDown p).om = s.om ∧
      (s.standDown p).alarms = s.alarms ∧ (s.standDown p).rl = s.rl ∧ (s.standDown p).ports = s.ports ∧
      (s.standDown p).ss = s.ss ∧ (s.standDown p).pending = s.pending := by
  unfold State.standDown
  try dsimp only
  simp

/-- Frame of `State.awaitStop`. -/
@[simp] theorem State.awaitStop_frame (s : State) (p : Pump) :
    (s.awaitStop p).uptime = s.uptime ∧ (s.awaitStop p).resetKind = s.resetKind ∧
      (s.awaitStop p).resetCause = s.resetCause ∧ (s.awaitStop p).liu = s.liu ∧ (s.awaitStop p).be = s.be ∧
      (s.awaitStop p).su = s.su ∧ (s.awaitStop p).cg = s.cg ∧ (s.awaitStop p).rc = s.rc ∧
      (s.awaitStop p).om = s.om ∧ (s.awaitStop p).alarms = s.alarms ∧ (s.awaitStop p).rl = s.rl ∧
      (s.awaitStop p).ports = s.ports ∧ (s.awaitStop p).ss = s.ss ∧ (s.awaitStop p).pending = s.pending := by
  unfold State.awaitStop
  try dsimp only
  (repeat' split) <;> simp

/-- Frame of `State.enterStopping`. -/
@[simp] theorem State.enterStopping_frame (s : State) (p : Pump) :
    (s.enterStopping p).uptime = s.uptime ∧ (s.enterStopping p).resetKind = s.resetKind ∧
      (s.enterStopping p).resetCause = s.resetCause ∧ (s.enterStopping p).liu = s.liu ∧
      (s.enterStopping p).be = s.be ∧ (s.enterStopping p).su = s.su ∧ (s.enterStopping p).rc = s.rc ∧
      (s.enterStopping p).om = s.om ∧ (s.enterStopping p).alarms = s.alarms ∧ (s.enterStopping p).rl = s.rl ∧
      (s.enterStopping p).ports = s.ports ∧ (s.enterStopping p).ss = s.ss ∧
      (s.enterStopping p).pending = s.pending := by
  unfold State.enterStopping
  try dsimp only
  simp

/-- Frame of `State.postCause`. -/
@[simp] theorem State.postCause_frame (s : State) (p : Pump) (k : Cause) (v : Bool) :
    (s.postCause p k v).uptime = s.uptime ∧ (s.postCause p k v).resetKind = s.resetKind ∧
      (s.postCause p k v).resetCause = s.resetCause ∧ (s.postCause p k v).liu = s.liu ∧
      (s.postCause p k v).be = s.be ∧ (s.postCause p k v).su = s.su ∧ (s.postCause p k v).ch = s.ch ∧
      (s.postCause p k v).cg = s.cg ∧ (s.postCause p k v).sa = s.sa ∧ (s.postCause p k v).rc = s.rc ∧
      (s.postCause p k v).om = s.om ∧ (s.postCause p k v).ports = s.ports ∧ (s.postCause p k v).ss = s.ss ∧
      (s.postCause p k v).work = s.work ∧ (s.postCause p k v).pending = s.pending := by
  unfold State.postCause
  try dsimp only
  (repeat' split) <;> simp

/-- Frame of `State.lockOut`. -/
@[simp] theorem State.lockOut_frame (s : State) (p : Pump) (k : Cause) :
    (s.lockOut p k).uptime = s.uptime ∧ (s.lockOut p k).resetKind = s.resetKind ∧
      (s.lockOut p k).resetCause = s.resetCause ∧ (s.lockOut p k).liu = s.liu ∧ (s.lockOut p k).be = s.be ∧
      (s.lockOut p k).rc = s.rc ∧ (s.lockOut p k).om = s.om ∧ (s.lockOut p k).ports = s.ports ∧
      (s.lockOut p k).ss = s.ss ∧ (s.lockOut p k).pending = s.pending := by
  unfold State.lockOut
  try dsimp only
  simp

/-- Frame of `State.endLockout`. -/
@[simp] theorem State.endLockout_frame (s : State) (p : Pump) :
    (s.endLockout p).uptime = s.uptime ∧ (s.endLockout p).resetKind = s.resetKind ∧
      (s.endLockout p).resetCause = s.resetCause ∧ (s.endLockout p).liu = s.liu ∧ (s.endLockout p).be = s.be ∧
      (s.endLockout p).su = s.su ∧ (s.endLockout p).cg = s.cg ∧ (s.endLockout p).rc = s.rc ∧
      (s.endLockout p).om = s.om ∧ (s.endLockout p).ports = s.ports ∧ (s.endLockout p).ss = s.ss ∧
      (s.endLockout p).pending = s.pending := by
  unfold State.endLockout
  try dsimp only
  (repeat' split) <;> simp

/-- Frame of `State.enterRunning`. -/
@[simp] theorem State.enterRunning_frame (s : State) (p : Pump) :
    (s.enterRunning p).uptime = s.uptime ∧ (s.enterRunning p).resetKind = s.resetKind ∧
      (s.enterRunning p).resetCause = s.resetCause ∧ (s.enterRunning p).liu = s.liu ∧
      (s.enterRunning p).be = s.be ∧ (s.enterRunning p).rc = s.rc ∧ (s.enterRunning p).om = s.om ∧
      (s.enterRunning p).alarms = s.alarms ∧ (s.enterRunning p).rl = s.rl ∧
      (s.enterRunning p).ports = s.ports ∧ (s.enterRunning p).ss = s.ss ∧ (s.enterRunning p).pending = s.pending := by
  unfold State.enterRunning
  try dsimp only
  (repeat' split) <;> simp

/-- Frame of `State.pumpMoves`. -/
@[simp] theorem State.pumpMoves_frame (s : State) (p : Pump) (m : Member) :
    (s.pumpMoves p m).uptime = s.uptime ∧ (s.pumpMoves p m).resetKind = s.resetKind ∧
      (s.pumpMoves p m).resetCause = s.resetCause ∧ (s.pumpMoves p m).liu = s.liu ∧
      (s.pumpMoves p m).be = s.be ∧ (s.pumpMoves p m).rc = s.rc ∧ (s.pumpMoves p m).om = s.om ∧
      (s.pumpMoves p m).alarms = s.alarms ∧ (s.pumpMoves p m).rl = s.rl ∧ (s.pumpMoves p m).ports = s.ports ∧
      (s.pumpMoves p m).ss = s.ss ∧ (s.pumpMoves p m).pending = s.pending := by
  unfold State.pumpMoves
  try dsimp only
  (repeat' split) <;> simp

/-- Frame of `State.pumpAsk`. -/
@[simp] theorem State.pumpAsk_frame (s : State) (p : Pump) (m : Member) :
    (s.pumpAsk p m).uptime = s.uptime ∧ (s.pumpAsk p m).resetKind = s.resetKind ∧
      (s.pumpAsk p m).resetCause = s.resetCause ∧ (s.pumpAsk p m).liu = s.liu ∧ (s.pumpAsk p m).be = s.be ∧
      (s.pumpAsk p m).rc = s.rc ∧ (s.pumpAsk p m).om = s.om ∧ (s.pumpAsk p m).alarms = s.alarms ∧
      (s.pumpAsk p m).rl = s.rl ∧ (s.pumpAsk p m).ports = s.ports ∧ (s.pumpAsk p m).ss = s.ss ∧
      (s.pumpAsk p m).pending = s.pending := by
  unfold State.pumpAsk
  try dsimp only
  (repeat' split) <;> simp

/-- Frame of `State.beginStart`. -/
@[simp] theorem State.beginStart_frame (s : State) (p : Pump) :
    (s.beginStart p).uptime = s.uptime ∧ (s.beginStart p).resetKind = s.resetKind ∧
      (s.beginStart p).resetCause = s.resetCause ∧ (s.beginStart p).liu = s.liu ∧ (s.beginStart p).be = s.be ∧
      (s.beginStart p).rc = s.rc ∧ (s.beginStart p).om = s.om ∧ (s.beginStart p).alarms = s.alarms ∧
      (s.beginStart p).rl = s.rl ∧ (s.beginStart p).ports = s.ports ∧ (s.beginStart p).ss = s.ss ∧
      (s.beginStart p).pending = s.pending := by
  unfold State.beginStart
  try dsimp only
  (repeat' split) <;> simp

/-- Frame of `State.changeOver`. -/
@[simp] theorem State.changeOver_frame (s : State) (p : Pump) :
    (s.changeOver p).uptime = s.uptime ∧ (s.changeOver p).resetKind = s.resetKind ∧
      (s.changeOver p).resetCause = s.resetCause ∧ (s.changeOver p).liu = s.liu ∧ (s.changeOver p).be = s.be ∧
      (s.changeOver p).rc = s.rc ∧ (s.changeOver p).om = s.om ∧ (s.changeOver p).alarms = s.alarms ∧
      (s.changeOver p).rl = s.rl ∧ (s.changeOver p).ports = s.ports ∧ (s.changeOver p).ss = s.ss ∧
      (s.changeOver p).pending = s.pending := by
  unfold State.changeOver
  try dsimp only
  simp

/-- Frame of `State.takeStart`. -/
@[simp] theorem State.takeStart_frame (s : State) (p : Pump) :
    (s.takeStart p).uptime = s.uptime ∧ (s.takeStart p).resetKind = s.resetKind ∧
      (s.takeStart p).resetCause = s.resetCause ∧ (s.takeStart p).liu = s.liu ∧ (s.takeStart p).be = s.be ∧
      (s.takeStart p).cg = s.cg ∧ (s.takeStart p).rc = s.rc ∧ (s.takeStart p).om = s.om ∧
      (s.takeStart p).alarms = s.alarms ∧ (s.takeStart p).rl = s.rl ∧ (s.takeStart p).ports = s.ports ∧
      (s.takeStart p).ss = s.ss ∧ (s.takeStart p).pending = s.pending := by
  unfold State.takeStart
  try dsimp only
  (repeat' split) <;> simp

/-- Frame of `State.takeStop`. -/
@[simp] theorem State.takeStop_frame (s : State) (p : Pump) :
    (s.takeStop p).uptime = s.uptime ∧ (s.takeStop p).resetKind = s.resetKind ∧
      (s.takeStop p).resetCause = s.resetCause ∧ (s.takeStop p).liu = s.liu ∧ (s.takeStop p).be = s.be ∧
      (s.takeStop p).su = s.su ∧ (s.takeStop p).rc = s.rc ∧ (s.takeStop p).om = s.om ∧
      (s.takeStop p).alarms = s.alarms ∧ (s.takeStop p).rl = s.rl ∧ (s.takeStop p).ports = s.ports ∧
      (s.takeStop p).ss = s.ss ∧ (s.takeStop p).pending = s.pending := by
  unfold State.takeStop
  try dsimp only
  (repeat' split) <;> simp

/-- Frame of `State.takeStopNow`. -/
@[simp] theorem State.takeStopNow_frame (s : State) (p : Pump) :
    (s.takeStopNow p).uptime = s.uptime ∧ (s.takeStopNow p).resetKind = s.resetKind ∧
      (s.takeStopNow p).resetCause = s.resetCause ∧ (s.takeStopNow p).liu = s.liu ∧
      (s.takeStopNow p).be = s.be ∧ (s.takeStopNow p).su = s.su ∧ (s.takeStopNow p).rc = s.rc ∧
      (s.takeStopNow p).om = s.om ∧ (s.takeStopNow p).alarms = s.alarms ∧ (s.takeStopNow p).rl = s.rl ∧
      (s.takeStopNow p).ports = s.ports ∧ (s.takeStopNow p).ss = s.ss ∧ (s.takeStopNow p).pending = s.pending := by
  unfold State.takeStopNow
  try dsimp only
  (repeat' split) <;> simp

/-- Frame of `State.postRequest`. -/
@[simp] theorem State.postRequest_frame (s : State) (p : Pump) (r : Req) :
    (s.postRequest p r).uptime = s.uptime ∧ (s.postRequest p r).resetKind = s.resetKind ∧
      (s.postRequest p r).resetCause = s.resetCause ∧ (s.postRequest p r).liu = s.liu ∧
      (s.postRequest p r).be = s.be ∧ (s.postRequest p r).rc = s.rc ∧ (s.postRequest p r).om = s.om ∧
      (s.postRequest p r).alarms = s.alarms ∧ (s.postRequest p r).rl = s.rl ∧
      (s.postRequest p r).ports = s.ports ∧ (s.postRequest p r).ss = s.ss ∧
      (s.postRequest p r).pending = s.pending := by
  unfold State.postRequest
  try dsimp only
  (repeat' split) <;> simp

/-- Frame of `State.thermalTrip`. -/
@[simp] theorem State.thermalTrip_frame (s : State) (p : Pump) :
    (s.thermalTrip p).uptime = s.uptime ∧ (s.thermalTrip p).resetKind = s.resetKind ∧
      (s.thermalTrip p).resetCause = s.resetCause ∧ (s.thermalTrip p).liu = s.liu ∧
      (s.thermalTrip p).be = s.be ∧ (s.thermalTrip p).rc = s.rc ∧ (s.thermalTrip p).om = s.om ∧
      (s.thermalTrip p).ports = s.ports ∧ (s.thermalTrip p).ss = s.ss ∧ (s.thermalTrip p).pending = s.pending := by
  unfold State.thermalTrip
  try dsimp only
  (repeat' split) <;> simp

/-- Frame of `State.feedbackChange`. -/
@[simp] theorem State.feedbackChange_frame (s : State) (p : Pump) (active : Bool) :
    (s.feedbackChange p active).uptime = s.uptime ∧ (s.feedbackChange p active).resetKind = s.resetKind ∧
      (s.feedbackChange p active).resetCause = s.resetCause ∧ (s.feedbackChange p active).liu = s.liu ∧
      (s.feedbackChange p active).be = s.be ∧ (s.feedbackChange p active).rc = s.rc ∧
      (s.feedbackChange p active).om = s.om ∧ (s.feedbackChange p active).ports = s.ports ∧
      (s.feedbackChange p active).ss = s.ss ∧ (s.feedbackChange p active).pending = s.pending := by
  unfold State.feedbackChange
  try dsimp only
  (repeat' split) <;> simp

/-- Frame of `State.ungate`. -/
@[simp] theorem State.ungate_frame (s : State) (p : Pump) :
    (s.ungate p).uptime = s.uptime ∧ (s.ungate p).resetKind = s.resetKind ∧
      (s.ungate p).resetCause = s.resetCause ∧ (s.ungate p).liu = s.liu ∧ (s.ungate p).be = s.be ∧
      (s.ungate p).su = s.su ∧ (s.ungate p).rc = s.rc ∧ (s.ungate p).om = s.om ∧
      (s.ungate p).alarms = s.alarms ∧ (s.ungate p).rl = s.rl ∧ (s.ungate p).ports = s.ports ∧
      (s.ungate p).ss = s.ss ∧ (s.ungate p).pending = s.pending := by
  unfold State.ungate
  try dsimp only
  simp

/-- Frame of `State.toOff`. -/
@[simp] theorem State.toOff_frame (s : State) (p : Pump) :
    (s.toOff p).uptime = s.uptime ∧ (s.toOff p).resetKind = s.resetKind ∧
      (s.toOff p).resetCause = s.resetCause ∧ (s.toOff p).liu = s.liu ∧ (s.toOff p).be = s.be ∧
      (s.toOff p).su = s.su ∧ (s.toOff p).rc = s.rc ∧ (s.toOff p).om = s.om ∧ (s.toOff p).ports = s.ports ∧
      (s.toOff p).ss = s.ss ∧ (s.toOff p).pending = s.pending := by
  unfold State.toOff
  try dsimp only
  (repeat' split) <;> simp

/-- Frame of `State.toAbsent`. -/
@[simp] theorem State.toAbsent_frame (s : State) (p : Pump) :
    (s.toAbsent p).uptime = s.uptime ∧ (s.toAbsent p).resetKind = s.resetKind ∧
      (s.toAbsent p).resetCause = s.resetCause ∧ (s.toAbsent p).liu = s.liu ∧ (s.toAbsent p).be = s.be ∧
      (s.toAbsent p).su = s.su ∧ (s.toAbsent p).rc = s.rc ∧ (s.toAbsent p).om = s.om ∧
      (s.toAbsent p).ports = s.ports ∧ (s.toAbsent p).ss = s.ss ∧ (s.toAbsent p).pending = s.pending := by
  unfold State.toAbsent
  try dsimp only
  (repeat' split) <;> simp

/-- Frame of `State.toHand`. -/
@[simp] theorem State.toHand_frame (s : State) (p : Pump) :
    (s.toHand p).uptime = s.uptime ∧ (s.toHand p).resetKind = s.resetKind ∧
      (s.toHand p).resetCause = s.resetCause ∧ (s.toHand p).liu = s.liu ∧ (s.toHand p).be = s.be ∧
      (s.toHand p).su = s.su ∧ (s.toHand p).cg = s.cg ∧ (s.toHand p).rc = s.rc ∧ (s.toHand p).om = s.om ∧
      (s.toHand p).alarms = s.alarms ∧ (s.toHand p).rl = s.rl ∧ (s.toHand p).ports = s.ports ∧
      (s.toHand p).ss = s.ss ∧ (s.toHand p).pending = s.pending := by
  unfold State.toHand
  try dsimp only
  (repeat' split) <;> simp

/-- Frame of `State.toStaged`. -/
@[simp] theorem State.toStaged_frame (s : State) (p : Pump) (src : Source) :
    (s.toStaged p src).uptime = s.uptime ∧ (s.toStaged p src).resetKind = s.resetKind ∧
      (s.toStaged p src).resetCause = s.resetCause ∧ (s.toStaged p src).liu = s.liu ∧
      (s.toStaged p src).be = s.be ∧ (s.toStaged p src).su = s.su ∧ (s.toStaged p src).rc = s.rc ∧
      (s.toStaged p src).om = s.om ∧ (s.toStaged p src).alarms = s.alarms ∧ (s.toStaged p src).rl = s.rl ∧
      (s.toStaged p src).ports = s.ports ∧ (s.toStaged p src).ss = s.ss ∧ (s.toStaged p src).pending = s.pending := by
  unfold State.toStaged
  try dsimp only
  (repeat' split) <;> simp

/-- Frame of `State.changeSource`. -/
@[simp] theorem State.changeSource_frame (s : State) (p : Pump) (src : Source) :
    (s.changeSource p src).uptime = s.uptime ∧ (s.changeSource p src).resetKind = s.resetKind ∧
      (s.changeSource p src).resetCause = s.resetCause ∧ (s.changeSource p src).liu = s.liu ∧
      (s.changeSource p src).be = s.be ∧ (s.changeSource p src).rc = s.rc ∧ (s.changeSource p src).om = s.om ∧
      (s.changeSource p src).ports = s.ports ∧ (s.changeSource p src).ss = s.ss ∧
      (s.changeSource p src).pending = s.pending := by
  unfold State.changeSource
  try dsimp only
  (repeat' split) <;> simp

/-- Frame of `State.rederive`. -/
@[simp] theorem State.rederive_frame (s : State) (p : Pump) :
    (s.rederive p).uptime = s.uptime ∧ (s.rederive p).resetKind = s.resetKind ∧
      (s.rederive p).resetCause = s.resetCause ∧ (s.rederive p).liu = s.liu ∧ (s.rederive p).be = s.be ∧
      (s.rederive p).rc = s.rc ∧ (s.rederive p).om = s.om ∧ (s.rederive p).ports = s.ports ∧
      (s.rederive p).ss = s.ss ∧ (s.rederive p).pending = s.pending := by
  unfold State.rederive
  try dsimp only
  simp

/-- Frame of `State.removeEntry`. -/
@[simp] theorem State.removeEntry_frame (s : State) (p : Pump) :
    (s.removeEntry p).uptime = s.uptime ∧ (s.removeEntry p).resetKind = s.resetKind ∧
      (s.removeEntry p).resetCause = s.resetCause ∧ (s.removeEntry p).liu = s.liu ∧
      (s.removeEntry p).be = s.be ∧ (s.removeEntry p).rc = s.rc ∧ (s.removeEntry p).om = s.om ∧
      (s.removeEntry p).ports = s.ports ∧ (s.removeEntry p).ss = s.ss ∧ (s.removeEntry p).pending = s.pending := by
  unfold State.removeEntry
  try dsimp only
  (repeat' split) <;> simp

/-- Frame of `State.cutout`. -/
@[simp] theorem State.cutout_frame (s : State) (p : Pump) :
    (s.cutout p).uptime = s.uptime ∧ (s.cutout p).resetKind = s.resetKind ∧
      (s.cutout p).resetCause = s.resetCause ∧ (s.cutout p).liu = s.liu ∧ (s.cutout p).be = s.be ∧
      (s.cutout p).rc = s.rc ∧ (s.cutout p).om = s.om ∧ (s.cutout p).alarms = s.alarms ∧
      (s.cutout p).rl = s.rl ∧ (s.cutout p).ports = s.ports ∧ (s.cutout p).ss = s.ss ∧
      (s.cutout p).pending = s.pending := by
  unfold State.cutout
  try dsimp only
  (repeat' split) <;> simp

/-- Frame of `State.deadChannel`. -/
@[simp] theorem State.deadChannel_frame (s : State) (p : Pump) :
    (s.deadChannel p).uptime = s.uptime ∧ (s.deadChannel p).resetKind = s.resetKind ∧
      (s.deadChannel p).resetCause = s.resetCause ∧ (s.deadChannel p).liu = s.liu ∧
      (s.deadChannel p).be = s.be ∧ (s.deadChannel p).su = s.su ∧ (s.deadChannel p).rc = s.rc ∧
      (s.deadChannel p).om = s.om ∧ (s.deadChannel p).alarms = s.alarms ∧ (s.deadChannel p).rl = s.rl ∧
      (s.deadChannel p).ports = s.ports ∧ (s.deadChannel p).ss = s.ss ∧ (s.deadChannel p).pending = s.pending := by
  unfold State.deadChannel
  try dsimp only
  (repeat' split) <;> simp

/-- Frame of `State.sessionEndChannel`. -/
@[simp] theorem State.sessionEndChannel_frame (s : State) (p : Pump) :
    (s.sessionEndChannel p).uptime = s.uptime ∧ (s.sessionEndChannel p).resetKind = s.resetKind ∧
      (s.sessionEndChannel p).resetCause = s.resetCause ∧ (s.sessionEndChannel p).liu = s.liu ∧
      (s.sessionEndChannel p).be = s.be ∧ (s.sessionEndChannel p).rc = s.rc ∧
      (s.sessionEndChannel p).om = s.om ∧ (s.sessionEndChannel p).alarms = s.alarms ∧
      (s.sessionEndChannel p).rl = s.rl ∧ (s.sessionEndChannel p).ports = s.ports ∧
      (s.sessionEndChannel p).ss = s.ss ∧ (s.sessionEndChannel p).pending = s.pending := by
  unfold State.sessionEndChannel
  try dsimp only
  (repeat' split) <;> simp

end Sys2Proof.Machine
end

