-- ==== Sys2Proof/Laws/FrameStaging.lean ====
section
/-! SUPPORT. Frames of the arbiter and the Staging Unit: for each shared operation, the blocks of the state it
leaves as they were. -/

namespace Sys2Proof.Machine

/-- Frame of `State.recordStart`. -/
@[simp] theorem State.recordStart_frame (s : State) (p : Pump) :
    (s.recordStart p).uptime = s.uptime ∧ (s.recordStart p).resetKind = s.resetKind ∧
      (s.recordStart p).resetCause = s.resetCause ∧ (s.recordStart p).liu = s.liu ∧
      (s.recordStart p).be = s.be ∧ (s.recordStart p).su = s.su ∧ (s.recordStart p).ch = s.ch ∧
      (s.recordStart p).cg = s.cg ∧ (s.recordStart p).rc = s.rc ∧ (s.recordStart p).om = s.om ∧
      (s.recordStart p).alarms = s.alarms ∧ (s.recordStart p).rl = s.rl ∧ (s.recordStart p).ports = s.ports ∧
      (s.recordStart p).ss = s.ss ∧ (s.recordStart p).work = s.work ∧ (s.recordStart p).pending = s.pending := by
  unfold State.recordStart
  try dsimp only
  (repeat' split) <;> simp

/-- Frame of `State.grant`. -/
@[simp] theorem State.grant_frame (s : State) (h : Holder) :
    (s.grant h).uptime = s.uptime ∧ (s.grant h).resetKind = s.resetKind ∧
      (s.grant h).resetCause = s.resetCause ∧ (s.grant h).liu = s.liu ∧ (s.grant h).be = s.be ∧
      (s.grant h).om = s.om ∧ (s.grant h).ports = s.ports ∧ (s.grant h).ss = s.ss ∧
      (s.grant h).pending = s.pending := by
  unfold State.grant
  try dsimp only
  (repeat' split) <;> simp

/-- Frame of `State.offer`. -/
@[simp] theorem State.offer_frame (s : State) :
    (s.offer).uptime = s.uptime ∧ (s.offer).resetKind = s.resetKind ∧ (s.offer).resetCause = s.resetCause ∧
      (s.offer).liu = s.liu ∧ (s.offer).be = s.be ∧ (s.offer).om = s.om ∧ (s.offer).ports = s.ports ∧
      (s.offer).ss = s.ss ∧ (s.offer).pending = s.pending := by
  unfold State.offer
  try dsimp only
  (repeat' split) <;> simp

/-- Frame of `State.endStagger`. -/
@[simp] theorem State.endStagger_frame (s : State) :
    (s.endStagger).uptime = s.uptime ∧ (s.endStagger).resetKind = s.resetKind ∧
      (s.endStagger).resetCause = s.resetCause ∧ (s.endStagger).liu = s.liu ∧ (s.endStagger).be = s.be ∧
      (s.endStagger).su = s.su ∧ (s.endStagger).ch = s.ch ∧ (s.endStagger).cg = s.cg ∧
      (s.endStagger).rc = s.rc ∧ (s.endStagger).om = s.om ∧ (s.endStagger).alarms = s.alarms ∧
      (s.endStagger).rl = s.rl ∧ (s.endStagger).ports = s.ports ∧ (s.endStagger).ss = s.ss ∧
      (s.endStagger).pending = s.pending := by
  unfold State.endStagger
  try dsimp only
  simp

/-- Frame of `State.setFlags`. -/
@[simp] theorem State.setFlags_frame (s : State) (fl : List Bool) :
    (s.setFlags fl).uptime = s.uptime ∧ (s.setFlags fl).resetKind = s.resetKind ∧
      (s.setFlags fl).resetCause = s.resetCause ∧ (s.setFlags fl).liu = s.liu ∧ (s.setFlags fl).be = s.be ∧
      (s.setFlags fl).ch = s.ch ∧ (s.setFlags fl).cg = s.cg ∧ (s.setFlags fl).sa = s.sa ∧
      (s.setFlags fl).rc = s.rc ∧ (s.setFlags fl).om = s.om ∧ (s.setFlags fl).alarms = s.alarms ∧
      (s.setFlags fl).rl = s.rl ∧ (s.setFlags fl).ports = s.ports ∧ (s.setFlags fl).ss = s.ss ∧
      (s.setFlags fl).work = s.work ∧ (s.setFlags fl).pending = s.pending := by
  unfold State.setFlags
  try dsimp only
  simp

/-- Frame of the stops that end a handover. -/
theorem State.stopOutgoing_frame (l : List Pump) (s : State) :

      (l.foldl (fun s p => if (s.ch.get p).source = .auto then s.postRequest p .stop else s) s).uptime = s.uptime ∧
      (l.foldl (fun s p => if (s.ch.get p).source = .auto then s.postRequest p .stop else s) s).resetKind = s.resetKind ∧
      (l.foldl (fun s p => if (s.ch.get p).source = .auto then s.postRequest p .stop else s) s).resetCause = s.resetCause ∧
      (l.foldl (fun s p => if (s.ch.get p).source = .auto then s.postRequest p .stop else s) s).liu = s.liu ∧
      (l.foldl (fun s p => if (s.ch.get p).source = .auto then s.postRequest p .stop else s) s).be = s.be ∧
      (l.foldl (fun s p => if (s.ch.get p).source = .auto then s.postRequest p .stop else s) s).rc = s.rc ∧
      (l.foldl (fun s p => if (s.ch.get p).source = .auto then s.postRequest p .stop else s) s).om = s.om ∧
      (l.foldl (fun s p => if (s.ch.get p).source = .auto then s.postRequest p .stop else s) s).alarms = s.alarms ∧
      (l.foldl (fun s p => if (s.ch.get p).source = .auto then s.postRequest p .stop else s) s).rl = s.rl ∧
      (l.foldl (fun s p => if (s.ch.get p).source = .auto then s.postRequest p .stop else s) s).ports = s.ports ∧
      (l.foldl (fun s p => if (s.ch.get p).source = .auto then s.postRequest p .stop else s) s).ss = s.ss ∧
      (l.foldl (fun s p => if (s.ch.get p).source = .auto then s.postRequest p .stop else s) s).pending = s.pending := by
  induction l generalizing s with
  | nil => simp
  | cons p l ih =>
    simp only [List.foldl_cons]
    have h := ih (if (s.ch.get p).source = .auto then s.postRequest p .stop else s)
    revert h
    split <;> simp

/-- Frame of `State.endHandover`. -/
@[simp] theorem State.endHandover_frame (s : State) :
    (s.endHandover).uptime = s.uptime ∧ (s.endHandover).resetKind = s.resetKind ∧
      (s.endHandover).resetCause = s.resetCause ∧ (s.endHandover).liu = s.liu ∧ (s.endHandover).be = s.be ∧
      (s.endHandover).rc = s.rc ∧ (s.endHandover).om = s.om ∧ (s.endHandover).alarms = s.alarms ∧
      (s.endHandover).rl = s.rl ∧ (s.endHandover).ports = s.ports ∧ (s.endHandover).ss = s.ss ∧
      (s.endHandover).pending = s.pending := by
  unfold State.endHandover
  split
  · simp
  · simp [State.stopOutgoing_frame]

/-- Frame of `State.enterFallback`. -/
@[simp] theorem State.enterFallback_frame (s : State) (m : ModeChange) :
    (s.enterFallback m).uptime = s.uptime ∧ (s.enterFallback m).resetKind = s.resetKind ∧
      (s.enterFallback m).resetCause = s.resetCause ∧ (s.enterFallback m).liu = s.liu ∧
      (s.enterFallback m).be = s.be ∧ (s.enterFallback m).rc = s.rc ∧ (s.enterFallback m).om = s.om ∧
      (s.enterFallback m).ports = s.ports ∧ (s.enterFallback m).ss = s.ss ∧
      (s.enterFallback m).pending = s.pending := by
  unfold State.enterFallback
  try dsimp only
  simp

/-- Frame of `State.fallbackCondition`. -/
@[simp] theorem State.fallbackCondition_frame (s : State) (m : ModeChange) :
    (s.fallbackCondition m).uptime = s.uptime ∧ (s.fallbackCondition m).resetKind = s.resetKind ∧
      (s.fallbackCondition m).resetCause = s.resetCause ∧ (s.fallbackCondition m).liu = s.liu ∧
      (s.fallbackCondition m).be = s.be ∧ (s.fallbackCondition m).rc = s.rc ∧
      (s.fallbackCondition m).om = s.om ∧ (s.fallbackCondition m).ports = s.ports ∧
      (s.fallbackCondition m).ss = s.ss ∧ (s.fallbackCondition m).pending = s.pending := by
  unfold State.fallbackCondition
  try dsimp only
  (repeat' split) <;> simp

/-- Frame of `State.tryLeaveFallback`. -/
@[simp] theorem State.tryLeaveFallback_frame (s : State) :
    (s.tryLeaveFallback).uptime = s.uptime ∧ (s.tryLeaveFallback).resetKind = s.resetKind ∧
      (s.tryLeaveFallback).resetCause = s.resetCause ∧ (s.tryLeaveFallback).liu = s.liu ∧
      (s.tryLeaveFallback).be = s.be ∧ (s.tryLeaveFallback).ch = s.ch ∧ (s.tryLeaveFallback).cg = s.cg ∧
      (s.tryLeaveFallback).sa = s.sa ∧ (s.tryLeaveFallback).rc = s.rc ∧ (s.tryLeaveFallback).om = s.om ∧
      (s.tryLeaveFallback).ports = s.ports ∧ (s.tryLeaveFallback).ss = s.ss ∧
      (s.tryLeaveFallback).work = s.work ∧ (s.tryLeaveFallback).pending = s.pending := by
  unfold State.tryLeaveFallback
  try dsimp only
  (repeat' split) <;> simp

/-- Frame of `State.suLevel`. -/
@[simp] theorem State.suLevel_frame (s : State) (l : Nat) :
    (s.suLevel l).uptime = s.uptime ∧ (s.suLevel l).resetKind = s.resetKind ∧
      (s.suLevel l).resetCause = s.resetCause ∧ (s.suLevel l).liu = s.liu ∧ (s.suLevel l).be = s.be ∧
      (s.suLevel l).ch = s.ch ∧ (s.suLevel l).cg = s.cg ∧ (s.suLevel l).sa = s.sa ∧ (s.suLevel l).rc = s.rc ∧
      (s.suLevel l).om = s.om ∧ (s.suLevel l).ports = s.ports ∧ (s.suLevel l).ss = s.ss ∧
      (s.suLevel l).work = s.work ∧ (s.suLevel l).pending = s.pending := by
  unfold State.suLevel
  try dsimp only
  (repeat' split) <;> simp

/-- Frame of `State.suReport`. -/
@[simp] theorem State.suReport_frame (s : State) :
    (s.suReport).uptime = s.uptime ∧ (s.suReport).resetKind = s.resetKind ∧
      (s.suReport).resetCause = s.resetCause ∧ (s.suReport).liu = s.liu ∧ (s.suReport).be = s.be ∧
      (s.suReport).rc = s.rc ∧ (s.suReport).om = s.om ∧ (s.suReport).ports = s.ports ∧ (s.suReport).ss = s.ss ∧
      (s.suReport).pending = s.pending := by
  unfold State.suReport
  try dsimp only
  (repeat' split) <;> simp

/-- Frame of `State.latchFloat`. -/
@[simp] theorem State.latchFloat_frame (s : State) (k : Nat) :
    (s.latchFloat k).uptime = s.uptime ∧ (s.latchFloat k).resetKind = s.resetKind ∧
      (s.latchFloat k).resetCause = s.resetCause ∧ (s.latchFloat k).liu = s.liu ∧ (s.latchFloat k).be = s.be ∧
      (s.latchFloat k).ch = s.ch ∧ (s.latchFloat k).cg = s.cg ∧ (s.latchFloat k).sa = s.sa ∧
      (s.latchFloat k).rc = s.rc ∧ (s.latchFloat k).om = s.om ∧ (s.latchFloat k).alarms = s.alarms ∧
      (s.latchFloat k).rl = s.rl ∧ (s.latchFloat k).ports = s.ports ∧ (s.latchFloat k).ss = s.ss ∧
      (s.latchFloat k).work = s.work ∧ (s.latchFloat k).pending = s.pending := by
  unfold State.latchFloat
  try dsimp only
  (repeat' split) <;> simp

/-- Frame of `State.riseTick`. -/
@[simp] theorem State.riseTick_frame (s : State) (est : Option Nat) :
    (s.riseTick est).uptime = s.uptime ∧ (s.riseTick est).resetKind = s.resetKind ∧
      (s.riseTick est).resetCause = s.resetCause ∧ (s.riseTick est).liu = s.liu ∧ (s.riseTick est).be = s.be ∧
      (s.riseTick est).ch = s.ch ∧ (s.riseTick est).cg = s.cg ∧ (s.riseTick est).sa = s.sa ∧
      (s.riseTick est).rc = s.rc ∧ (s.riseTick est).om = s.om ∧ (s.riseTick est).alarms = s.alarms ∧
      (s.riseTick est).rl = s.rl ∧ (s.riseTick est).ports = s.ports ∧ (s.riseTick est).ss = s.ss ∧
      (s.riseTick est).work = s.work ∧ (s.riseTick est).pending = s.pending := by
  unfold State.riseTick
  try dsimp only
  (repeat' split) <;> simp

/-- Frame of `State.rotate`. -/
@[simp] theorem State.rotate_frame (s : State) :
    (s.rotate).uptime = s.uptime ∧ (s.rotate).resetKind = s.resetKind ∧ (s.rotate).resetCause = s.resetCause ∧
      (s.rotate).liu = s.liu ∧ (s.rotate).be = s.be ∧ (s.rotate).ch = s.ch ∧ (s.rotate).cg = s.cg ∧
      (s.rotate).sa = s.sa ∧ (s.rotate).rc = s.rc ∧ (s.rotate).om = s.om ∧ (s.rotate).alarms = s.alarms ∧
      (s.rotate).rl = s.rl ∧ (s.rotate).ports = s.ports ∧ (s.rotate).ss = s.ss ∧ (s.rotate).work = s.work ∧
      (s.rotate).pending = s.pending := by
  unfold State.rotate
  try dsimp only
  (repeat' split) <;> simp

/-- Frame of `State.rotateHandover`. -/
@[simp] theorem State.rotateHandover_frame (s : State) :
    (s.rotateHandover).uptime = s.uptime ∧ (s.rotateHandover).resetKind = s.resetKind ∧
      (s.rotateHandover).resetCause = s.resetCause ∧ (s.rotateHandover).liu = s.liu ∧
      (s.rotateHandover).be = s.be ∧ (s.rotateHandover).ch = s.ch ∧ (s.rotateHandover).cg = s.cg ∧
      (s.rotateHandover).sa = s.sa ∧ (s.rotateHandover).rc = s.rc ∧ (s.rotateHandover).om = s.om ∧
      (s.rotateHandover).alarms = s.alarms ∧ (s.rotateHandover).rl = s.rl ∧
      (s.rotateHandover).ports = s.ports ∧ (s.rotateHandover).ss = s.ss ∧ (s.rotateHandover).work = s.work ∧
      (s.rotateHandover).pending = s.pending := by
  unfold State.rotateHandover
  try dsimp only
  (repeat' split) <;> simp

/-- Frame of `State.takeCycleEnd`. -/
@[simp] theorem State.takeCycleEnd_frame (s : State) :
    (s.takeCycleEnd).uptime = s.uptime ∧ (s.takeCycleEnd).resetKind = s.resetKind ∧
      (s.takeCycleEnd).resetCause = s.resetCause ∧ (s.takeCycleEnd).liu = s.liu ∧ (s.takeCycleEnd).be = s.be ∧
      (s.takeCycleEnd).ch = s.ch ∧ (s.takeCycleEnd).cg = s.cg ∧ (s.takeCycleEnd).sa = s.sa ∧
      (s.takeCycleEnd).rc = s.rc ∧ (s.takeCycleEnd).om = s.om ∧ (s.takeCycleEnd).alarms = s.alarms ∧
      (s.takeCycleEnd).rl = s.rl ∧ (s.takeCycleEnd).ports = s.ports ∧ (s.takeCycleEnd).ss = s.ss ∧
      (s.takeCycleEnd).pending = s.pending := by
  unfold State.takeCycleEnd
  try dsimp only
  (repeat' split) <;> simp

/-- Frame of `State.checkDuty`. -/
@[simp] theorem State.checkDuty_frame (s : State) :
    (s.checkDuty).uptime = s.uptime ∧ (s.checkDuty).resetKind = s.resetKind ∧
      (s.checkDuty).resetCause = s.resetCause ∧ (s.checkDuty).liu = s.liu ∧ (s.checkDuty).be = s.be ∧
      (s.checkDuty).ch = s.ch ∧ (s.checkDuty).cg = s.cg ∧ (s.checkDuty).sa = s.sa ∧ (s.checkDuty).rc = s.rc ∧
      (s.checkDuty).om = s.om ∧ (s.checkDuty).alarms = s.alarms ∧ (s.checkDuty).rl = s.rl ∧
      (s.checkDuty).ports = s.ports ∧ (s.checkDuty).ss = s.ss ∧ (s.checkDuty).work = s.work ∧
      (s.checkDuty).pending = s.pending := by
  unfold State.checkDuty
  try dsimp only
  (repeat' split) <;> simp

/-- Frame of `State.recomputeDemand`. -/
@[simp] theorem State.recomputeDemand_frame (s : State) :
    (s.recomputeDemand).uptime = s.uptime ∧ (s.recomputeDemand).resetKind = s.resetKind ∧
      (s.recomputeDemand).resetCause = s.resetCause ∧ (s.recomputeDemand).liu = s.liu ∧
      (s.recomputeDemand).be = s.be ∧ (s.recomputeDemand).ch = s.ch ∧ (s.recomputeDemand).cg = s.cg ∧
      (s.recomputeDemand).sa = s.sa ∧ (s.recomputeDemand).rc = s.rc ∧ (s.recomputeDemand).om = s.om ∧
      (s.recomputeDemand).alarms = s.alarms ∧ (s.recomputeDemand).rl = s.rl ∧
      (s.recomputeDemand).ports = s.ports ∧ (s.recomputeDemand).ss = s.ss ∧ (s.recomputeDemand).work = s.work ∧
      (s.recomputeDemand).pending = s.pending := by
  unfold State.recomputeDemand
  try dsimp only
  (repeat' split) <;> simp

/-- Frame of `State.retarget`. -/
@[simp] theorem State.retarget_frame (s : State) :
    (s.retarget).uptime = s.uptime ∧ (s.retarget).resetKind = s.resetKind ∧
      (s.retarget).resetCause = s.resetCause ∧ (s.retarget).liu = s.liu ∧ (s.retarget).be = s.be ∧
      (s.retarget).ch = s.ch ∧ (s.retarget).cg = s.cg ∧ (s.retarget).sa = s.sa ∧ (s.retarget).rc = s.rc ∧
      (s.retarget).om = s.om ∧ (s.retarget).alarms = s.alarms ∧ (s.retarget).rl = s.rl ∧
      (s.retarget).ports = s.ports ∧ (s.retarget).ss = s.ss ∧ (s.retarget).work = s.work ∧
      (s.retarget).pending = s.pending := by
  unfold State.retarget
  try dsimp only
  simp

/-- Frame of `State.stepHandover`. -/
@[simp] theorem State.stepHandover_frame (s : State) :
    (s.stepHandover).uptime = s.uptime ∧ (s.stepHandover).resetKind = s.resetKind ∧
      (s.stepHandover).resetCause = s.resetCause ∧ (s.stepHandover).liu = s.liu ∧ (s.stepHandover).be = s.be ∧
      (s.stepHandover).ch = s.ch ∧ (s.stepHandover).cg = s.cg ∧ (s.stepHandover).sa = s.sa ∧
      (s.stepHandover).rc = s.rc ∧ (s.stepHandover).om = s.om ∧ (s.stepHandover).alarms = s.alarms ∧
      (s.stepHandover).rl = s.rl ∧ (s.stepHandover).ports = s.ports ∧ (s.stepHandover).ss = s.ss ∧
      (s.stepHandover).work = s.work ∧ (s.stepHandover).pending = s.pending := by
  unfold State.stepHandover
  try dsimp only
  (repeat' split) <;> simp

/-- Frame of `State.postOne`. -/
@[simp] theorem State.postOne_frame (s : State) (p : Pump) :
    (s.postOne p).uptime = s.uptime ∧ (s.postOne p).resetKind = s.resetKind ∧
      (s.postOne p).resetCause = s.resetCause ∧ (s.postOne p).liu = s.liu ∧ (s.postOne p).be = s.be ∧
      (s.postOne p).rc = s.rc ∧ (s.postOne p).om = s.om ∧ (s.postOne p).alarms = s.alarms ∧
      (s.postOne p).rl = s.rl ∧ (s.postOne p).ports = s.ports ∧ (s.postOne p).ss = s.ss ∧
      (s.postOne p).pending = s.pending := by
  unfold State.postOne
  try dsimp only
  (repeat' split) <;> simp

/-- Frame of `State.watchCycle`. -/
@[simp] theorem State.watchCycle_frame (s : State) (t : State) :
    (s.watchCycle t).uptime = t.uptime ∧ (s.watchCycle t).resetKind = t.resetKind ∧
      (s.watchCycle t).resetCause = t.resetCause ∧ (s.watchCycle t).liu = t.liu ∧ (s.watchCycle t).be = t.be ∧
      (s.watchCycle t).su = t.su ∧ (s.watchCycle t).ch = t.ch ∧ (s.watchCycle t).cg = t.cg ∧
      (s.watchCycle t).sa = t.sa ∧ (s.watchCycle t).rc = t.rc ∧ (s.watchCycle t).om = t.om ∧
      (s.watchCycle t).alarms = t.alarms ∧ (s.watchCycle t).rl = t.rl ∧ (s.watchCycle t).ports = t.ports ∧
      (s.watchCycle t).ss = t.ss ∧ (s.watchCycle t).pending = t.pending := by
  unfold State.watchCycle
  split <;> simp

/-- Frame of the posts to a list of pumps. -/
theorem State.postEach_frame (l : List Pump) (s : State) :
    (l.foldl State.postOne s).uptime = s.uptime ∧ (l.foldl State.postOne s).resetKind = s.resetKind ∧
      (l.foldl State.postOne s).resetCause = s.resetCause ∧ (l.foldl State.postOne s).liu = s.liu ∧
      (l.foldl State.postOne s).be = s.be ∧ (l.foldl State.postOne s).rc = s.rc ∧
      (l.foldl State.postOne s).om = s.om ∧ (l.foldl State.postOne s).alarms = s.alarms ∧
      (l.foldl State.postOne s).rl = s.rl ∧ (l.foldl State.postOne s).ports = s.ports ∧
      (l.foldl State.postOne s).ss = s.ss ∧ (l.foldl State.postOne s).pending = s.pending := by
  induction l generalizing s with
  | nil => simp
  | cons p l ih => simp [ih]

/-- Frame of `State.postAll`. -/
@[simp] theorem State.postAll_frame (s : State) :
    (s.postAll).uptime = s.uptime ∧ (s.postAll).resetKind = s.resetKind ∧
      (s.postAll).resetCause = s.resetCause ∧ (s.postAll).liu = s.liu ∧ (s.postAll).be = s.be ∧
      (s.postAll).rc = s.rc ∧ (s.postAll).om = s.om ∧ (s.postAll).alarms = s.alarms ∧ (s.postAll).rl = s.rl ∧
      (s.postAll).ports = s.ports ∧ (s.postAll).ss = s.ss ∧ (s.postAll).pending = s.pending := by
  simp [State.postAll, State.postEach_frame]

/-- Frame of `State.suPass`. -/
@[simp] theorem State.suPass_frame (s : State) :
    (s.suPass).uptime = s.uptime ∧ (s.suPass).resetKind = s.resetKind ∧ (s.suPass).resetCause = s.resetCause ∧
      (s.suPass).liu = s.liu ∧ (s.suPass).be = s.be ∧ (s.suPass).rc = s.rc ∧ (s.suPass).om = s.om ∧
      (s.suPass).alarms = s.alarms ∧ (s.suPass).rl = s.rl ∧ (s.suPass).ports = s.ports ∧ (s.suPass).ss = s.ss ∧
      (s.suPass).pending = s.pending := by
  unfold State.suPass
  try dsimp only
  simp

/-- Frame of `State.settle`. -/
@[simp] theorem State.settle_frame (s : State) :
    (s.settle).uptime = s.uptime ∧ (s.settle).resetKind = s.resetKind ∧ (s.settle).resetCause = s.resetCause ∧
      (s.settle).liu = s.liu ∧ (s.settle).be = s.be ∧ (s.settle).rc = s.rc ∧ (s.settle).om = s.om ∧
      (s.settle).alarms = s.alarms ∧ (s.settle).rl = s.rl ∧ (s.settle).ports = s.ports ∧ (s.settle).ss = s.ss ∧
      (s.settle).pending = s.pending := by
  unfold State.settle
  try dsimp only
  simp

/-- Frame of `State.finish`. -/
@[simp] theorem State.finish_frame (old s : State) :
    (old.finish s).uptime = s.uptime ∧ (old.finish s).resetKind = s.resetKind ∧
      (old.finish s).resetCause = s.resetCause ∧ (old.finish s).liu = s.liu ∧ (old.finish s).be = s.be ∧
      (old.finish s).om = s.om ∧ (old.finish s).ports = s.ports ∧ (old.finish s).ss = s.ss ∧
      (old.finish s).pending = s.pending := by
  simp [State.finish]

/-- Frame of `State.dutyExpiry`. -/
@[simp] theorem State.dutyExpiry_frame (s : State) :
    (s.dutyExpiry).uptime = s.uptime ∧ (s.dutyExpiry).resetKind = s.resetKind ∧
      (s.dutyExpiry).resetCause = s.resetCause ∧ (s.dutyExpiry).liu = s.liu ∧ (s.dutyExpiry).be = s.be ∧
      (s.dutyExpiry).ch = s.ch ∧ (s.dutyExpiry).cg = s.cg ∧ (s.dutyExpiry).sa = s.sa ∧
      (s.dutyExpiry).rc = s.rc ∧ (s.dutyExpiry).om = s.om ∧ (s.dutyExpiry).alarms = s.alarms ∧
      (s.dutyExpiry).rl = s.rl ∧ (s.dutyExpiry).ports = s.ports ∧ (s.dutyExpiry).ss = s.ss ∧
      (s.dutyExpiry).work = s.work ∧ (s.dutyExpiry).pending = s.pending := by
  unfold State.dutyExpiry
  try dsimp only
  (repeat' split) <;> simp

end Sys2Proof.Machine
end

