-- ==== Sys2Proof/Laws/FrameSupply.lean ====
section
/-! SUPPORT. Frames of the power supervisor, the balance and the overflow monitor: for each shared operation, the blocks of the state it
leaves as they were. -/

namespace Sys2Proof.Machine

/-- Frame of `State.stopExcess`. -/
@[simp] theorem State.stopExcess_frame (s : State) (p : Pump) :
    (s.stopExcess p).uptime = s.uptime ∧ (s.stopExcess p).resetKind = s.resetKind ∧
      (s.stopExcess p).resetCause = s.resetCause ∧ (s.stopExcess p).liu = s.liu ∧ (s.stopExcess p).be = s.be ∧
      (s.stopExcess p).rc = s.rc ∧ (s.stopExcess p).om = s.om ∧ (s.stopExcess p).alarms = s.alarms ∧
      (s.stopExcess p).rl = s.rl ∧ (s.stopExcess p).ports = s.ports ∧ (s.stopExcess p).ss = s.ss ∧
      (s.stopExcess p).pending = s.pending := by
  unfold State.stopExcess
  try dsimp only
  simp

/-- Frame of the stops of an excess. -/
theorem State.stopEach_frame (l : List Pump) (s : State) :
    (l.foldl State.stopExcess s).uptime = s.uptime ∧ (l.foldl State.stopExcess s).resetKind = s.resetKind ∧
      (l.foldl State.stopExcess s).resetCause = s.resetCause ∧ (l.foldl State.stopExcess s).liu = s.liu ∧
      (l.foldl State.stopExcess s).be = s.be ∧ (l.foldl State.stopExcess s).rc = s.rc ∧
      (l.foldl State.stopExcess s).om = s.om ∧ (l.foldl State.stopExcess s).alarms = s.alarms ∧
      (l.foldl State.stopExcess s).rl = s.rl ∧ (l.foldl State.stopExcess s).ports = s.ports ∧
      (l.foldl State.stopExcess s).ss = s.ss ∧ (l.foldl State.stopExcess s).pending = s.pending := by
  induction l generalizing s with
  | nil => simp
  | cons p l ih => simp [ih]

/-- Frame of `State.shedExcess`. -/
@[simp] theorem State.shedExcess_frame (s : State) :
    (s.shedExcess).uptime = s.uptime ∧ (s.shedExcess).resetKind = s.resetKind ∧
      (s.shedExcess).resetCause = s.resetCause ∧ (s.shedExcess).liu = s.liu ∧ (s.shedExcess).be = s.be ∧
      (s.shedExcess).rc = s.rc ∧ (s.shedExcess).om = s.om ∧ (s.shedExcess).alarms = s.alarms ∧
      (s.shedExcess).rl = s.rl ∧ (s.shedExcess).ports = s.ports ∧ (s.shedExcess).ss = s.ss ∧
      (s.shedExcess).pending = s.pending := by
  simp [State.shedExcess, State.stopEach_frame]

/-- Frame of `State.setLimit`. -/
@[simp] theorem State.setLimit_frame (s : State) (n : Nat) :
    (s.setLimit n).uptime = s.uptime ∧ (s.setLimit n).resetKind = s.resetKind ∧
      (s.setLimit n).resetCause = s.resetCause ∧ (s.setLimit n).liu = s.liu ∧ (s.setLimit n).be = s.be ∧
      (s.setLimit n).rc = s.rc ∧ (s.setLimit n).om = s.om ∧ (s.setLimit n).alarms = s.alarms ∧
      (s.setLimit n).rl = s.rl ∧ (s.setLimit n).ports = s.ports ∧ (s.setLimit n).ss = s.ss ∧
      (s.setLimit n).pending = s.pending := by
  unfold State.setLimit
  try dsimp only
  (repeat' split) <;> simp

/-- Frame of `State.clearPermit`. -/
@[simp] theorem State.clearPermit_frame (s : State) :
    (s.clearPermit).uptime = s.uptime ∧ (s.clearPermit).resetKind = s.resetKind ∧
      (s.clearPermit).resetCause = s.resetCause ∧ (s.clearPermit).liu = s.liu ∧ (s.clearPermit).be = s.be ∧
      (s.clearPermit).su = s.su ∧ (s.clearPermit).ch = s.ch ∧ (s.clearPermit).cg = s.cg ∧
      (s.clearPermit).rc = s.rc ∧ (s.clearPermit).om = s.om ∧ (s.clearPermit).alarms = s.alarms ∧
      (s.clearPermit).rl = s.rl ∧ (s.clearPermit).ports = s.ports ∧ (s.clearPermit).ss = s.ss ∧
      (s.clearPermit).work = s.work ∧ (s.clearPermit).pending = s.pending := by
  unfold State.clearPermit
  try dsimp only
  simp

/-- Frame of `State.clearStation`. -/
@[simp] theorem State.clearStation_frame (s : State) :
    (s.clearStation).uptime = s.uptime ∧ (s.clearStation).resetKind = s.resetKind ∧
      (s.clearStation).resetCause = s.resetCause ∧ (s.clearStation).liu = s.liu ∧ (s.clearStation).be = s.be ∧
      (s.clearStation).su = s.su ∧ (s.clearStation).om = s.om ∧ (s.clearStation).alarms = s.alarms ∧
      (s.clearStation).rl = s.rl ∧ (s.clearStation).ports = s.ports ∧ (s.clearStation).ss = s.ss ∧
      (s.clearStation).pending = s.pending := by
  unfold State.clearStation
  try dsimp only
  simp [Pump.all]

/-- Frame of `State.beginHold`. -/
@[simp] theorem State.beginHold_frame (s : State) :
    (s.beginHold).uptime = s.uptime ∧ (s.beginHold).resetKind = s.resetKind ∧
      (s.beginHold).resetCause = s.resetCause ∧ (s.beginHold).liu = s.liu ∧ (s.beginHold).be = s.be ∧
      (s.beginHold).su = s.su ∧ (s.beginHold).ch = s.ch ∧ (s.beginHold).cg = s.cg ∧ (s.beginHold).rc = s.rc ∧
      (s.beginHold).om = s.om ∧ (s.beginHold).alarms = s.alarms ∧ (s.beginHold).rl = s.rl ∧
      (s.beginHold).ports = s.ports ∧ (s.beginHold).ss = s.ss ∧ (s.beginHold).pending = s.pending := by
  unfold State.beginHold
  try dsimp only
  (repeat' split) <;> simp

/-- Frame of `State.endHold`. -/
@[simp] theorem State.endHold_frame (s : State) :
    (s.endHold).uptime = s.uptime ∧ (s.endHold).resetKind = s.resetKind ∧
      (s.endHold).resetCause = s.resetCause ∧ (s.endHold).liu = s.liu ∧ (s.endHold).be = s.be ∧
      (s.endHold).su = s.su ∧ (s.endHold).ch = s.ch ∧ (s.endHold).cg = s.cg ∧ (s.endHold).rc = s.rc ∧
      (s.endHold).om = s.om ∧ (s.endHold).alarms = s.alarms ∧ (s.endHold).rl = s.rl ∧
      (s.endHold).ports = s.ports ∧ (s.endHold).ss = s.ss ∧ (s.endHold).pending = s.pending := by
  unfold State.endHold
  try dsimp only
  simp

/-- Frame of `State.sourceEffects`. -/
@[simp] theorem State.sourceEffects_frame (s : State) (old new : Power) :
    (s.sourceEffects old new).uptime = s.uptime ∧ (s.sourceEffects old new).resetKind = s.resetKind ∧
      (s.sourceEffects old new).resetCause = s.resetCause ∧ (s.sourceEffects old new).liu = s.liu ∧
      (s.sourceEffects old new).be = s.be ∧ (s.sourceEffects old new).su = s.su ∧
      (s.sourceEffects old new).om = s.om ∧ (s.sourceEffects old new).alarms = s.alarms ∧
      (s.sourceEffects old new).rl = s.rl ∧ (s.sourceEffects old new).ports = s.ports ∧
      (s.sourceEffects old new).ss = s.ss ∧ (s.sourceEffects old new).pending = s.pending := by
  unfold State.sourceEffects
  try dsimp only
  (repeat' split) <;> simp [Pump.all]

/-- Frame of `State.changePower`. -/
@[simp] theorem State.changePower_frame (s : State) :
    (s.changePower).uptime = s.uptime ∧ (s.changePower).resetKind = s.resetKind ∧
      (s.changePower).resetCause = s.resetCause ∧ (s.changePower).liu = s.liu ∧ (s.changePower).be = s.be ∧
      (s.changePower).om = s.om ∧ (s.changePower).ports = s.ports ∧ (s.changePower).ss = s.ss ∧
      (s.changePower).pending = s.pending := by
  unfold State.changePower
  try dsimp only
  (repeat' split) <;> simp

/-- Frame of `State.runSecond`. -/
@[simp] theorem State.runSecond_frame (s : State) (p : Pump) :
    (s.runSecond p).uptime = s.uptime ∧ (s.runSecond p).resetKind = s.resetKind ∧
      (s.runSecond p).resetCause = s.resetCause ∧ (s.runSecond p).liu = s.liu ∧ (s.runSecond p).be = s.be ∧
      (s.runSecond p).su = s.su ∧ (s.runSecond p).cg = s.cg ∧ (s.runSecond p).sa = s.sa ∧
      (s.runSecond p).rc = s.rc ∧ (s.runSecond p).om = s.om ∧ (s.runSecond p).alarms = s.alarms ∧
      (s.runSecond p).rl = s.rl ∧ (s.runSecond p).ports = s.ports ∧ (s.runSecond p).ss = s.ss ∧
      (s.runSecond p).work = s.work ∧ (s.runSecond p).pending = s.pending := by
  unfold State.runSecond
  try dsimp only
  (repeat' split) <;> simp

/-- Frame of `State.handSpill`. -/
@[simp] theorem State.handSpill_frame (s : State) (q : Nat) :
    (s.handSpill q).uptime = s.uptime ∧ (s.handSpill q).resetKind = s.resetKind ∧
      (s.handSpill q).resetCause = s.resetCause ∧ (s.handSpill q).liu = s.liu ∧ (s.handSpill q).su = s.su ∧
      (s.handSpill q).ch = s.ch ∧ (s.handSpill q).cg = s.cg ∧ (s.handSpill q).sa = s.sa ∧
      (s.handSpill q).rc = s.rc ∧ (s.handSpill q).alarms = s.alarms ∧ (s.handSpill q).rl = s.rl ∧
      (s.handSpill q).ports = s.ports ∧ (s.handSpill q).ss = s.ss ∧ (s.handSpill q).work = s.work ∧
      (s.handSpill q).pending = s.pending := by
  unfold State.handSpill
  try dsimp only
  (repeat' split) <;> simp

/-- Frame of `State.unmeasuredSecond`. -/
@[simp] theorem State.unmeasuredSecond_frame (s : State) :
    (s.unmeasuredSecond).uptime = s.uptime ∧ (s.unmeasuredSecond).resetKind = s.resetKind ∧
      (s.unmeasuredSecond).resetCause = s.resetCause ∧ (s.unmeasuredSecond).liu = s.liu ∧
      (s.unmeasuredSecond).be = s.be ∧ (s.unmeasuredSecond).su = s.su ∧ (s.unmeasuredSecond).ch = s.ch ∧
      (s.unmeasuredSecond).cg = s.cg ∧ (s.unmeasuredSecond).sa = s.sa ∧ (s.unmeasuredSecond).rc = s.rc ∧
      (s.unmeasuredSecond).alarms = s.alarms ∧ (s.unmeasuredSecond).rl = s.rl ∧
      (s.unmeasuredSecond).ports = s.ports ∧ (s.unmeasuredSecond).ss = s.ss ∧
      (s.unmeasuredSecond).work = s.work ∧ (s.unmeasuredSecond).pending = s.pending := by
  unfold State.unmeasuredSecond
  try dsimp only
  (repeat' split) <;> simp

/-- Frame of `State.flowTick`. -/
@[simp] theorem State.flowTick_frame (s : State) :
    (s.flowTick).uptime = s.uptime ∧ (s.flowTick).resetKind = s.resetKind ∧
      (s.flowTick).resetCause = s.resetCause ∧ (s.flowTick).liu = s.liu ∧ (s.flowTick).su = s.su ∧
      (s.flowTick).cg = s.cg ∧ (s.flowTick).sa = s.sa ∧ (s.flowTick).rc = s.rc ∧
      (s.flowTick).alarms = s.alarms ∧ (s.flowTick).rl = s.rl ∧ (s.flowTick).ports = s.ports ∧
      (s.flowTick).ss = s.ss ∧ (s.flowTick).work = s.work ∧ (s.flowTick).pending = s.pending := by
  unfold State.flowTick
  try dsimp only
  simp [Pump.all]

/-- Frame of `State.balanceTick`. -/
@[simp] theorem State.balanceTick_frame (s : State) :
    (s.balanceTick).uptime = s.uptime ∧ (s.balanceTick).resetKind = s.resetKind ∧
      (s.balanceTick).resetCause = s.resetCause ∧ (s.balanceTick).liu = s.liu ∧ (s.balanceTick).ch = s.ch ∧
      (s.balanceTick).cg = s.cg ∧ (s.balanceTick).sa = s.sa ∧ (s.balanceTick).rc = s.rc ∧
      (s.balanceTick).om = s.om ∧ (s.balanceTick).alarms = s.alarms ∧ (s.balanceTick).rl = s.rl ∧
      (s.balanceTick).ports = s.ports ∧ (s.balanceTick).ss = s.ss ∧ (s.balanceTick).work = s.work ∧
      (s.balanceTick).pending = s.pending := by
  unfold State.balanceTick
  try dsimp only
  (repeat' split) <;> simp

/-- Frame of `State.spoilInterval`. -/
@[simp] theorem State.spoilInterval_frame (s : State) :
    (s.spoilInterval).uptime = s.uptime ∧ (s.spoilInterval).resetKind = s.resetKind ∧
      (s.spoilInterval).resetCause = s.resetCause ∧ (s.spoilInterval).liu = s.liu ∧
      (s.spoilInterval).su = s.su ∧ (s.spoilInterval).ch = s.ch ∧ (s.spoilInterval).cg = s.cg ∧
      (s.spoilInterval).sa = s.sa ∧ (s.spoilInterval).rc = s.rc ∧ (s.spoilInterval).om = s.om ∧
      (s.spoilInterval).alarms = s.alarms ∧ (s.spoilInterval).rl = s.rl ∧ (s.spoilInterval).ports = s.ports ∧
      (s.spoilInterval).ss = s.ss ∧ (s.spoilInterval).work = s.work ∧ (s.spoilInterval).pending = s.pending := by
  unfold State.spoilInterval
  try dsimp only
  simp

/-- Frame of `State.beLevel`. -/
@[simp] theorem State.beLevel_frame (s : State) (l : Nat) :
    (s.beLevel l).uptime = s.uptime ∧ (s.beLevel l).resetKind = s.resetKind ∧
      (s.beLevel l).resetCause = s.resetCause ∧ (s.beLevel l).liu = s.liu ∧ (s.beLevel l).su = s.su ∧
      (s.beLevel l).ch = s.ch ∧ (s.beLevel l).cg = s.cg ∧ (s.beLevel l).sa = s.sa ∧ (s.beLevel l).rc = s.rc ∧
      (s.beLevel l).om = s.om ∧ (s.beLevel l).alarms = s.alarms ∧ (s.beLevel l).rl = s.rl ∧
      (s.beLevel l).ports = s.ports ∧ (s.beLevel l).ss = s.ss ∧ (s.beLevel l).work = s.work ∧
      (s.beLevel l).pending = s.pending := by
  unfold State.beLevel
  try dsimp only
  simp

/-- Frame of `State.closeSummary`. -/
@[simp] theorem State.closeSummary_frame (s : State) (al : Bool) :
    (s.closeSummary al).uptime = s.uptime ∧ (s.closeSummary al).resetKind = s.resetKind ∧
      (s.closeSummary al).resetCause = s.resetCause ∧ (s.closeSummary al).liu = s.liu ∧
      (s.closeSummary al).su = s.su ∧ (s.closeSummary al).ch = s.ch ∧ (s.closeSummary al).cg = s.cg ∧
      (s.closeSummary al).sa = s.sa ∧ (s.closeSummary al).rc = s.rc ∧ (s.closeSummary al).om = s.om ∧
      (s.closeSummary al).ports = s.ports ∧ (s.closeSummary al).ss = s.ss ∧ (s.closeSummary al).work = s.work ∧
      (s.closeSummary al).pending = s.pending := by
  unfold State.closeSummary
  try dsimp only
  simp

/-- Frame of `State.beginOpening`. -/
@[simp] theorem State.beginOpening_frame (s : State) :
    (s.beginOpening).uptime = s.uptime ∧ (s.beginOpening).resetKind = s.resetKind ∧
      (s.beginOpening).resetCause = s.resetCause ∧ (s.beginOpening).liu = s.liu ∧ (s.beginOpening).su = s.su ∧
      (s.beginOpening).ch = s.ch ∧ (s.beginOpening).cg = s.cg ∧ (s.beginOpening).sa = s.sa ∧
      (s.beginOpening).rc = s.rc ∧ (s.beginOpening).alarms = s.alarms ∧ (s.beginOpening).rl = s.rl ∧
      (s.beginOpening).ports = s.ports ∧ (s.beginOpening).ss = s.ss ∧ (s.beginOpening).work = s.work ∧
      (s.beginOpening).pending = s.pending := by
  unfold State.beginOpening
  try dsimp only
  simp

/-- Frame of `State.omEvaluate`. -/
@[simp] theorem State.omEvaluate_frame (s : State) :
    (s.omEvaluate).uptime = s.uptime ∧ (s.omEvaluate).resetKind = s.resetKind ∧
      (s.omEvaluate).resetCause = s.resetCause ∧ (s.omEvaluate).liu = s.liu ∧ (s.omEvaluate).su = s.su ∧
      (s.omEvaluate).ch = s.ch ∧ (s.omEvaluate).cg = s.cg ∧ (s.omEvaluate).sa = s.sa ∧
      (s.omEvaluate).rc = s.rc ∧ (s.omEvaluate).alarms = s.alarms ∧ (s.omEvaluate).rl = s.rl ∧
      (s.omEvaluate).ports = s.ports ∧ (s.omEvaluate).ss = s.ss ∧ (s.omEvaluate).work = s.work ∧
      (s.omEvaluate).pending = s.pending := by
  unfold State.omEvaluate
  try dsimp only
  (repeat' split) <;> simp

/-- Frame of `State.openEvent`. -/
@[simp] theorem State.openEvent_frame (s : State) :
    (s.openEvent).uptime = s.uptime ∧ (s.openEvent).resetKind = s.resetKind ∧
      (s.openEvent).resetCause = s.resetCause ∧ (s.openEvent).liu = s.liu ∧ (s.openEvent).su = s.su ∧
      (s.openEvent).ch = s.ch ∧ (s.openEvent).cg = s.cg ∧ (s.openEvent).sa = s.sa ∧ (s.openEvent).rc = s.rc ∧
      (s.openEvent).ports = s.ports ∧ (s.openEvent).ss = s.ss ∧ (s.openEvent).work = s.work ∧
      (s.openEvent).pending = s.pending := by
  unfold State.openEvent
  try dsimp only
  simp

/-- Frame of `State.omPeak`. -/
@[simp] theorem State.omPeak_frame (s : State) (l : Nat) :
    (s.omPeak l).uptime = s.uptime ∧ (s.omPeak l).resetKind = s.resetKind ∧
      (s.omPeak l).resetCause = s.resetCause ∧ (s.omPeak l).liu = s.liu ∧ (s.omPeak l).be = s.be ∧
      (s.omPeak l).su = s.su ∧ (s.omPeak l).ch = s.ch ∧ (s.omPeak l).cg = s.cg ∧ (s.omPeak l).sa = s.sa ∧
      (s.omPeak l).rc = s.rc ∧ (s.omPeak l).alarms = s.alarms ∧ (s.omPeak l).rl = s.rl ∧
      (s.omPeak l).ports = s.ports ∧ (s.omPeak l).ss = s.ss ∧ (s.omPeak l).work = s.work ∧
      (s.omPeak l).pending = s.pending := by
  unfold State.omPeak
  try dsimp only
  (repeat' split) <;> simp

/-- Frame of `State.updateEvent`. -/
@[simp] theorem State.updateEvent_frame (s : State) :
    (s.updateEvent).uptime = s.uptime ∧ (s.updateEvent).resetKind = s.resetKind ∧
      (s.updateEvent).resetCause = s.resetCause ∧ (s.updateEvent).liu = s.liu ∧ (s.updateEvent).be = s.be ∧
      (s.updateEvent).su = s.su ∧ (s.updateEvent).ch = s.ch ∧ (s.updateEvent).cg = s.cg ∧
      (s.updateEvent).sa = s.sa ∧ (s.updateEvent).rc = s.rc ∧ (s.updateEvent).alarms = s.alarms ∧
      (s.updateEvent).rl = s.rl ∧ (s.updateEvent).ports = s.ports ∧ (s.updateEvent).ss = s.ss ∧
      (s.updateEvent).work = s.work ∧ (s.updateEvent).pending = s.pending := by
  unfold State.updateEvent
  try dsimp only
  (repeat' split) <;> simp

/-- Frame of `State.closeEvent`. -/
@[simp] theorem State.closeEvent_frame (s : State) :
    (s.closeEvent).uptime = s.uptime ∧ (s.closeEvent).resetKind = s.resetKind ∧
      (s.closeEvent).resetCause = s.resetCause ∧ (s.closeEvent).liu = s.liu ∧ (s.closeEvent).be = s.be ∧
      (s.closeEvent).su = s.su ∧ (s.closeEvent).ch = s.ch ∧ (s.closeEvent).cg = s.cg ∧
      (s.closeEvent).sa = s.sa ∧ (s.closeEvent).rc = s.rc ∧ (s.closeEvent).ports = s.ports ∧
      (s.closeEvent).ss = s.ss ∧ (s.closeEvent).work = s.work ∧ (s.closeEvent).pending = s.pending := by
  unfold State.closeEvent
  try dsimp only
  (repeat' split) <;> simp

end Sys2Proof.Machine
end

