-- ==== Sys2Proof/Laws/FrameLevels.lean ====
section
/-! SUPPORT. Frames of the session, the level channels and the inputs: for each shared operation, the blocks of the state it
leaves as they were. -/

namespace Sys2Proof.Machine

/-- Frame of `State.simStart`. -/
@[simp] theorem State.simStart_frame (s : State) (w i : Nat) :
    (s.simStart w i).uptime = s.uptime ∧ (s.simStart w i).resetKind = s.resetKind ∧
      (s.simStart w i).resetCause = s.resetCause ∧ (s.simStart w i).ch = s.ch ∧ (s.simStart w i).cg = s.cg ∧
      (s.simStart w i).rc = s.rc ∧ (s.simStart w i).om = s.om ∧ (s.simStart w i).ports = s.ports ∧
      (s.simStart w i).ss = s.ss ∧ (s.simStart w i).work = s.work ∧ (s.simStart w i).pending = s.pending := by
  unfold State.simStart
  try dsimp only
  simp

/-- Frame of `State.simSetLevels`. -/
@[simp] theorem State.simSetLevels_frame (s : State) (w i : Nat) :
    (s.simSetLevels w i).uptime = s.uptime ∧ (s.simSetLevels w i).resetKind = s.resetKind ∧
      (s.simSetLevels w i).resetCause = s.resetCause ∧ (s.simSetLevels w i).ch = s.ch ∧
      (s.simSetLevels w i).cg = s.cg ∧ (s.simSetLevels w i).sa = s.sa ∧ (s.simSetLevels w i).rc = s.rc ∧
      (s.simSetLevels w i).om = s.om ∧ (s.simSetLevels w i).ports = s.ports ∧ (s.simSetLevels w i).ss = s.ss ∧
      (s.simSetLevels w i).work = s.work ∧ (s.simSetLevels w i).pending = s.pending := by
  unfold State.simSetLevels
  try dsimp only
  (repeat' split) <;> simp

/-- Frame of `State.suRealLevel`. -/
@[simp] theorem State.suRealLevel_frame (s : State) :
    (s.suRealLevel).uptime = s.uptime ∧ (s.suRealLevel).resetKind = s.resetKind ∧
      (s.suRealLevel).resetCause = s.resetCause ∧ (s.suRealLevel).liu = s.liu ∧ (s.suRealLevel).be = s.be ∧
      (s.suRealLevel).ch = s.ch ∧ (s.suRealLevel).cg = s.cg ∧ (s.suRealLevel).sa = s.sa ∧
      (s.suRealLevel).rc = s.rc ∧ (s.suRealLevel).om = s.om ∧ (s.suRealLevel).ports = s.ports ∧
      (s.suRealLevel).ss = s.ss ∧ (s.suRealLevel).work = s.work ∧ (s.suRealLevel).pending = s.pending := by
  unfold State.suRealLevel
  try dsimp only
  (repeat' split) <;> simp

/-- Frame of `State.simEnd`. -/
@[simp] theorem State.simEnd_frame (s : State) (r : ExitReason) :
    (s.simEnd r).uptime = s.uptime ∧ (s.simEnd r).resetKind = s.resetKind ∧
      (s.simEnd r).resetCause = s.resetCause ∧ (s.simEnd r).rc = s.rc ∧ (s.simEnd r).om = s.om ∧
      (s.simEnd r).ports = s.ports ∧ (s.simEnd r).ss = s.ss ∧ (s.simEnd r).pending = s.pending := by
  unfold State.simEnd
  try dsimp only
  (repeat' split) <;> simp [Pump.all]

/-- Frame of `State.evalDiff`. -/
@[simp] theorem State.evalDiff_frame (s : State) (b : Bool) :
    (s.evalDiff b).uptime = s.uptime ∧ (s.evalDiff b).resetKind = s.resetKind ∧
      (s.evalDiff b).resetCause = s.resetCause ∧ (s.evalDiff b).be = s.be ∧ (s.evalDiff b).su = s.su ∧
      (s.evalDiff b).ch = s.ch ∧ (s.evalDiff b).cg = s.cg ∧ (s.evalDiff b).sa = s.sa ∧
      (s.evalDiff b).om = s.om ∧ (s.evalDiff b).ports = s.ports ∧ (s.evalDiff b).ss = s.ss ∧
      (s.evalDiff b).pending = s.pending := by
  unfold State.evalDiff
  try dsimp only
  (repeat' split) <;> simp

/-- Frame of `State.levelToConsumers`. -/
@[simp] theorem State.levelToConsumers_frame (s : State) (l : Nat) :
    (s.levelToConsumers l).uptime = s.uptime ∧ (s.levelToConsumers l).resetKind = s.resetKind ∧
      (s.levelToConsumers l).resetCause = s.resetCause ∧ (s.levelToConsumers l).rc = s.rc ∧
      (s.levelToConsumers l).ports = s.ports ∧ (s.levelToConsumers l).ss = s.ss ∧
      (s.levelToConsumers l).pending = s.pending := by
  unfold State.levelToConsumers
  try dsimp only
  (repeat' split) <;> simp

/-- Frame of `State.wellToStaging`. -/
@[simp] theorem State.wellToStaging_frame (s : State) (b : Bool) (l : Option Nat) :
    (s.wellToStaging b l).uptime = s.uptime ∧ (s.wellToStaging b l).resetKind = s.resetKind ∧
      (s.wellToStaging b l).resetCause = s.resetCause ∧ (s.wellToStaging b l).liu = s.liu ∧
      (s.wellToStaging b l).be = s.be ∧ (s.wellToStaging b l).rc = s.rc ∧ (s.wellToStaging b l).om = s.om ∧
      (s.wellToStaging b l).ports = s.ports ∧ (s.wellToStaging b l).ss = s.ss ∧
      (s.wellToStaging b l).pending = s.pending := by
  unfold State.wellToStaging
  try dsimp only
  (repeat' split) <;> simp

/-- Frame of `State.sampleWell`. -/
@[simp] theorem State.sampleWell_frame (s : State) (raw : BitVec 12) :
    (s.sampleWell raw).uptime = s.uptime ∧ (s.sampleWell raw).resetKind = s.resetKind ∧
      (s.sampleWell raw).resetCause = s.resetCause ∧ (s.sampleWell raw).ports = s.ports ∧
      (s.sampleWell raw).ss = s.ss ∧ (s.sampleWell raw).pending = s.pending := by
  unfold State.sampleWell
  dsimp only
  (repeat' split) <;> simp

/-- Frame of `State.sampleInlet`. -/
@[simp] theorem State.sampleInlet_frame (s : State) (raw : BitVec 12) :
    (s.sampleInlet raw).uptime = s.uptime ∧ (s.sampleInlet raw).resetKind = s.resetKind ∧
      (s.sampleInlet raw).resetCause = s.resetCause ∧ (s.sampleInlet raw).be = s.be ∧
      (s.sampleInlet raw).su = s.su ∧ (s.sampleInlet raw).ch = s.ch ∧ (s.sampleInlet raw).cg = s.cg ∧
      (s.sampleInlet raw).sa = s.sa ∧ (s.sampleInlet raw).om = s.om ∧ (s.sampleInlet raw).ports = s.ports ∧
      (s.sampleInlet raw).ss = s.ss ∧ (s.sampleInlet raw).pending = s.pending := by
  unfold State.sampleInlet
  try dsimp only
  (repeat' split) <;> simp

/-- Frame of `State.rawChange`. -/
@[simp] theorem State.rawChange_frame (s : State) (k : Nat) (v : Bool) :
    (s.rawChange k v).uptime = s.uptime ∧ (s.rawChange k v).resetKind = s.resetKind ∧
      (s.rawChange k v).resetCause = s.resetCause ∧ (s.rawChange k v).be = s.be ∧ (s.rawChange k v).su = s.su ∧
      (s.rawChange k v).ch = s.ch ∧ (s.rawChange k v).cg = s.cg ∧ (s.rawChange k v).sa = s.sa ∧
      (s.rawChange k v).rc = s.rc ∧ (s.rawChange k v).om = s.om ∧ (s.rawChange k v).alarms = s.alarms ∧
      (s.rawChange k v).rl = s.rl ∧ (s.rawChange k v).ports = s.ports ∧ (s.rawChange k v).ss = s.ss ∧
      (s.rawChange k v).work = s.work ∧ (s.rawChange k v).pending = s.pending := by
  unfold State.rawChange
  try dsimp only
  (repeat' split) <;> simp

/-- Frame of `State.takeInput`. -/
@[simp] theorem State.takeInput_frame (s : State) (k : Nat) :
    (s.takeInput k).uptime = s.uptime ∧ (s.takeInput k).resetKind = s.resetKind ∧
      (s.takeInput k).resetCause = s.resetCause ∧ (s.takeInput k).be = s.be ∧ (s.takeInput k).su = s.su ∧
      (s.takeInput k).ch = s.ch ∧ (s.takeInput k).cg = s.cg ∧ (s.takeInput k).sa = s.sa ∧
      (s.takeInput k).rc = s.rc ∧ (s.takeInput k).om = s.om ∧ (s.takeInput k).alarms = s.alarms ∧
      (s.takeInput k).rl = s.rl ∧ (s.takeInput k).ports = s.ports ∧ (s.takeInput k).ss = s.ss ∧
      (s.takeInput k).work = s.work ∧ (s.takeInput k).pending = s.pending := by
  unfold State.takeInput
  try dsimp only
  simp

/-- Frame of `State.selectorChange`. -/
@[simp] theorem State.selectorChange_frame (s : State) (p : Pump) :
    (s.selectorChange p).uptime = s.uptime ∧ (s.selectorChange p).resetKind = s.resetKind ∧
      (s.selectorChange p).resetCause = s.resetCause ∧ (s.selectorChange p).liu = s.liu ∧
      (s.selectorChange p).be = s.be ∧ (s.selectorChange p).rc = s.rc ∧ (s.selectorChange p).om = s.om ∧
      (s.selectorChange p).ports = s.ports ∧ (s.selectorChange p).ss = s.ss ∧
      (s.selectorChange p).pending = s.pending := by
  unfold State.selectorChange
  try dsimp only
  (repeat' split) <;> simp

/-- Frame of `State.pumpInputChange`. -/
@[simp] theorem State.pumpInputChange_frame (s : State) (p : Pump) (off : Nat) :
    (s.pumpInputChange p off).uptime = s.uptime ∧ (s.pumpInputChange p off).resetKind = s.resetKind ∧
      (s.pumpInputChange p off).resetCause = s.resetCause ∧ (s.pumpInputChange p off).liu = s.liu ∧
      (s.pumpInputChange p off).be = s.be ∧ (s.pumpInputChange p off).rc = s.rc ∧
      (s.pumpInputChange p off).om = s.om ∧ (s.pumpInputChange p off).ports = s.ports ∧
      (s.pumpInputChange p off).ss = s.ss ∧ (s.pumpInputChange p off).pending = s.pending := by
  unfold State.pumpInputChange
  try dsimp only
  (repeat' split) <;> simp

/-- Frame of `State.lowFloatChange`. -/
@[simp] theorem State.lowFloatChange_frame (s : State) :
    (s.lowFloatChange).uptime = s.uptime ∧ (s.lowFloatChange).resetKind = s.resetKind ∧
      (s.lowFloatChange).resetCause = s.resetCause ∧ (s.lowFloatChange).liu = s.liu ∧
      (s.lowFloatChange).be = s.be ∧ (s.lowFloatChange).rc = s.rc ∧ (s.lowFloatChange).om = s.om ∧
      (s.lowFloatChange).alarms = s.alarms ∧ (s.lowFloatChange).rl = s.rl ∧
      (s.lowFloatChange).ports = s.ports ∧ (s.lowFloatChange).ss = s.ss ∧ (s.lowFloatChange).pending = s.pending := by
  unfold State.lowFloatChange
  try dsimp only
  (repeat' split) <;> simp [Pump.all]

/-- Frame of `State.inputToOwners`. -/
@[simp] theorem State.inputToOwners_frame (s : State) (k : Nat) :
    (s.inputToOwners k).uptime = s.uptime ∧ (s.inputToOwners k).resetKind = s.resetKind ∧
      (s.inputToOwners k).resetCause = s.resetCause ∧ (s.inputToOwners k).ports = s.ports ∧
      (s.inputToOwners k).ss = s.ss ∧ (s.inputToOwners k).pending = s.pending := by
  unfold State.inputToOwners
  try dsimp only
  (repeat' split) <;> simp

/-- Frame of `State.inputChange`. -/
@[simp] theorem State.inputChange_frame (s : State) (k : Nat) :
    (s.inputChange k).uptime = s.uptime ∧ (s.inputChange k).resetKind = s.resetKind ∧
      (s.inputChange k).resetCause = s.resetCause ∧ (s.inputChange k).ports = s.ports ∧
      (s.inputChange k).ss = s.ss ∧ (s.inputChange k).pending = s.pending := by
  unfold State.inputChange
  try dsimp only
  simp

/-- Frame of `State.disagreeEnd`. -/
@[simp] theorem State.disagreeEnd_frame (s : State) :
    (s.disagreeEnd).uptime = s.uptime ∧ (s.disagreeEnd).resetKind = s.resetKind ∧
      (s.disagreeEnd).resetCause = s.resetCause ∧ (s.disagreeEnd).be = s.be ∧ (s.disagreeEnd).rc = s.rc ∧
      (s.disagreeEnd).om = s.om ∧ (s.disagreeEnd).ports = s.ports ∧ (s.disagreeEnd).ss = s.ss ∧
      (s.disagreeEnd).pending = s.pending := by
  unfold State.disagreeEnd
  try dsimp only
  (repeat' split) <;> simp

end Sys2Proof.Machine
end

