-- ==== Sys2Proof/Laws/FramePorts.lean ====
section
/-! SUPPORT. Frames of the ports and the Settings Store: for each shared operation, the blocks of the state it
leaves as they were. -/

namespace Sys2Proof.Machine

/-- Frame of `State.readTransaction`. -/
@[simp] theorem State.readTransaction_frame (s : State) (p : Port) (n : Nat) :
    (s.readTransaction p n).uptime = s.uptime ∧ (s.readTransaction p n).resetKind = s.resetKind ∧
      (s.readTransaction p n).resetCause = s.resetCause ∧ (s.readTransaction p n).liu = s.liu ∧
      (s.readTransaction p n).be = s.be ∧ (s.readTransaction p n).su = s.su ∧
      (s.readTransaction p n).ch = s.ch ∧ (s.readTransaction p n).cg = s.cg ∧
      (s.readTransaction p n).sa = s.sa ∧ (s.readTransaction p n).rc = s.rc ∧
      (s.readTransaction p n).om = s.om ∧ (s.readTransaction p n).alarms = s.alarms ∧
      (s.readTransaction p n).rl = s.rl ∧ (s.readTransaction p n).ss = s.ss ∧
      (s.readTransaction p n).work = s.work ∧ (s.readTransaction p n).pending = s.pending := by
  unfold State.readTransaction
  try dsimp only
  (repeat' split) <;> simp

/-- Frame of `State.reply`. -/
@[simp] theorem State.reply_frame (s : State) (p : Port) (tag code : Byte) (ta : Bool) (a : Answer) :
    (s.reply p tag code ta a).uptime = s.uptime ∧ (s.reply p tag code ta a).resetKind = s.resetKind ∧
      (s.reply p tag code ta a).resetCause = s.resetCause ∧ (s.reply p tag code ta a).liu = s.liu ∧
      (s.reply p tag code ta a).be = s.be ∧ (s.reply p tag code ta a).su = s.su ∧
      (s.reply p tag code ta a).ch = s.ch ∧ (s.reply p tag code ta a).cg = s.cg ∧
      (s.reply p tag code ta a).sa = s.sa ∧ (s.reply p tag code ta a).rc = s.rc ∧
      (s.reply p tag code ta a).om = s.om ∧ (s.reply p tag code ta a).alarms = s.alarms ∧
      (s.reply p tag code ta a).rl = s.rl ∧ (s.reply p tag code ta a).ss = s.ss ∧
      (s.reply p tag code ta a).work = s.work ∧ (s.reply p tag code ta a).pending = s.pending := by
  unfold State.reply
  try dsimp only
  (repeat' split) <;> simp

/-- Frame of `State.turnAway`. -/
@[simp] theorem State.turnAway_frame (s : State) (p : Port) (tc : Option (Byte × Byte)) (r : Reason) :
    (s.turnAway p tc r).uptime = s.uptime ∧ (s.turnAway p tc r).resetKind = s.resetKind ∧
      (s.turnAway p tc r).resetCause = s.resetCause ∧ (s.turnAway p tc r).liu = s.liu ∧
      (s.turnAway p tc r).be = s.be ∧ (s.turnAway p tc r).su = s.su ∧ (s.turnAway p tc r).ch = s.ch ∧
      (s.turnAway p tc r).cg = s.cg ∧ (s.turnAway p tc r).sa = s.sa ∧ (s.turnAway p tc r).rc = s.rc ∧
      (s.turnAway p tc r).om = s.om ∧ (s.turnAway p tc r).alarms = s.alarms ∧ (s.turnAway p tc r).rl = s.rl ∧
      (s.turnAway p tc r).ss = s.ss ∧ (s.turnAway p tc r).work = s.work ∧
      (s.turnAway p tc r).pending = s.pending := by
  unfold State.turnAway
  try dsimp only
  (repeat' split) <;> simp

/-- Frame of `State.hear`. -/
@[simp] theorem State.hear_frame (s : State) (p : Port) :
    (s.hear p).uptime = s.uptime ∧ (s.hear p).resetKind = s.resetKind ∧ (s.hear p).resetCause = s.resetCause ∧
      (s.hear p).liu = s.liu ∧ (s.hear p).be = s.be ∧ (s.hear p).su = s.su ∧ (s.hear p).ch = s.ch ∧
      (s.hear p).cg = s.cg ∧ (s.hear p).sa = s.sa ∧ (s.hear p).rc = s.rc ∧ (s.hear p).om = s.om ∧
      (s.hear p).ss = s.ss ∧ (s.hear p).work = s.work ∧ (s.hear p).pending = s.pending := by
  unfold State.hear
  try dsimp only
  (repeat' split) <;> simp

/-- Frame of `State.freeStaging`. -/
@[simp] theorem State.freeStaging_frame (s : State) :
    (s.freeStaging).uptime = s.uptime ∧ (s.freeStaging).resetKind = s.resetKind ∧
      (s.freeStaging).resetCause = s.resetCause ∧ (s.freeStaging).liu = s.liu ∧ (s.freeStaging).be = s.be ∧
      (s.freeStaging).su = s.su ∧ (s.freeStaging).ch = s.ch ∧ (s.freeStaging).cg = s.cg ∧
      (s.freeStaging).sa = s.sa ∧ (s.freeStaging).rc = s.rc ∧ (s.freeStaging).om = s.om ∧
      (s.freeStaging).alarms = s.alarms ∧ (s.freeStaging).rl = s.rl ∧ (s.freeStaging).ports = s.ports ∧
      (s.freeStaging).work = s.work ∧ (s.freeStaging).pending = s.pending := by
  unfold State.freeStaging
  try dsimp only
  simp

/-- Frame of `State.dropClaim`. -/
@[simp] theorem State.dropClaim_frame (s : State) (p : Port) :
    (s.dropClaim p).uptime = s.uptime ∧ (s.dropClaim p).resetKind = s.resetKind ∧
      (s.dropClaim p).resetCause = s.resetCause ∧ (s.dropClaim p).liu = s.liu ∧ (s.dropClaim p).be = s.be ∧
      (s.dropClaim p).su = s.su ∧ (s.dropClaim p).ch = s.ch ∧ (s.dropClaim p).cg = s.cg ∧
      (s.dropClaim p).sa = s.sa ∧ (s.dropClaim p).rc = s.rc ∧ (s.dropClaim p).om = s.om ∧
      (s.dropClaim p).alarms = s.alarms ∧ (s.dropClaim p).rl = s.rl ∧ (s.dropClaim p).ports = s.ports ∧
      (s.dropClaim p).work = s.work ∧ (s.dropClaim p).pending = s.pending := by
  unfold State.dropClaim
  try dsimp only
  (repeat' split) <;> simp

/-- Frame of `State.removeEntryOf`. -/
@[simp] theorem State.removeEntryOf_frame (p : Port) (s : State) (n : Pump) :
    (State.removeEntryOf p s n).uptime = s.uptime ∧ (State.removeEntryOf p s n).resetKind = s.resetKind ∧
      (State.removeEntryOf p s n).resetCause = s.resetCause ∧ (State.removeEntryOf p s n).liu = s.liu ∧
      (State.removeEntryOf p s n).be = s.be ∧ (State.removeEntryOf p s n).rc = s.rc ∧
      (State.removeEntryOf p s n).om = s.om ∧ (State.removeEntryOf p s n).ports = s.ports ∧
      (State.removeEntryOf p s n).ss = s.ss ∧ (State.removeEntryOf p s n).pending = s.pending := by
  unfold State.removeEntryOf
  (repeat' split) <;> simp

/-- Frame of `State.silence`. -/
@[simp] theorem State.silence_frame (s : State) (p : Port) :
    (s.silence p).uptime = s.uptime ∧ (s.silence p).resetKind = s.resetKind ∧
      (s.silence p).resetCause = s.resetCause ∧ (s.silence p).rc = s.rc ∧ (s.silence p).om = s.om ∧
      (s.silence p).pending = s.pending := by
  unfold State.silence
  try dsimp only
  (repeat' split) <;> simp [Pump.all]

/-- Frame of `State.clearDropped`. -/
@[simp] theorem State.clearDropped_frame (s : State) (p : Port) :
    (s.clearDropped p).uptime = s.uptime ∧ (s.clearDropped p).resetKind = s.resetKind ∧
      (s.clearDropped p).resetCause = s.resetCause ∧ (s.clearDropped p).liu = s.liu ∧
      (s.clearDropped p).be = s.be ∧ (s.clearDropped p).su = s.su ∧ (s.clearDropped p).ch = s.ch ∧
      (s.clearDropped p).cg = s.cg ∧ (s.clearDropped p).sa = s.sa ∧ (s.clearDropped p).rc = s.rc ∧
      (s.clearDropped p).om = s.om ∧ (s.clearDropped p).alarms = s.alarms ∧ (s.clearDropped p).rl = s.rl ∧
      (s.clearDropped p).ports = s.ports ∧ (s.clearDropped p).work = s.work ∧
      (s.clearDropped p).pending = s.pending := by
  unfold State.clearDropped
  try dsimp only
  simp

/-- Frame of `State.acceptEdit`. -/
@[simp] theorem State.acceptEdit_frame (s : State) (p : Port) (k v : Nat) :
    (s.acceptEdit p k v).uptime = s.uptime ∧ (s.acceptEdit p k v).resetKind = s.resetKind ∧
      (s.acceptEdit p k v).resetCause = s.resetCause ∧ (s.acceptEdit p k v).liu = s.liu ∧
      (s.acceptEdit p k v).be = s.be ∧ (s.acceptEdit p k v).su = s.su ∧ (s.acceptEdit p k v).ch = s.ch ∧
      (s.acceptEdit p k v).cg = s.cg ∧ (s.acceptEdit p k v).sa = s.sa ∧ (s.acceptEdit p k v).rc = s.rc ∧
      (s.acceptEdit p k v).om = s.om ∧ (s.acceptEdit p k v).alarms = s.alarms ∧
      (s.acceptEdit p k v).rl = s.rl ∧ (s.acceptEdit p k v).ports = s.ports ∧
      (s.acceptEdit p k v).work = s.work ∧ (s.acceptEdit p k v).pending = s.pending := by
  unfold State.acceptEdit
  try dsimp only
  simp

/-- Frame of `State.beginWrite`. -/
@[simp] theorem State.beginWrite_frame (s : State) (w : Store) :
    (s.beginWrite w).uptime = s.uptime ∧ (s.beginWrite w).resetKind = s.resetKind ∧
      (s.beginWrite w).resetCause = s.resetCause ∧ (s.beginWrite w).liu = s.liu ∧ (s.beginWrite w).be = s.be ∧
      (s.beginWrite w).su = s.su ∧ (s.beginWrite w).ch = s.ch ∧ (s.beginWrite w).cg = s.cg ∧
      (s.beginWrite w).sa = s.sa ∧ (s.beginWrite w).rc = s.rc ∧ (s.beginWrite w).om = s.om ∧
      (s.beginWrite w).alarms = s.alarms ∧ (s.beginWrite w).rl = s.rl ∧ (s.beginWrite w).ports = s.ports ∧
      (s.beginWrite w).work = s.work ∧ (s.beginWrite w).pending = s.pending := by
  unfold State.beginWrite
  try dsimp only
  simp

/-- Frame of `State.endWrite`. -/
@[simp] theorem State.endWrite_frame (s : State) (r : StoreResult) :
    (s.endWrite r).uptime = s.uptime ∧ (s.endWrite r).resetKind = s.resetKind ∧
      (s.endWrite r).resetCause = s.resetCause ∧ (s.endWrite r).liu = s.liu ∧ (s.endWrite r).be = s.be ∧
      (s.endWrite r).su = s.su ∧ (s.endWrite r).ch = s.ch ∧ (s.endWrite r).cg = s.cg ∧
      (s.endWrite r).sa = s.sa ∧ (s.endWrite r).rc = s.rc ∧ (s.endWrite r).om = s.om ∧
      (s.endWrite r).ports = s.ports ∧ (s.endWrite r).work = s.work ∧ (s.endWrite r).pending = s.pending := by
  unfold State.endWrite
  try dsimp only
  (repeat' split) <;> simp

/-- Frame of `State.completeWrite`. -/
@[simp] theorem State.completeWrite_frame (s : State) (r : StoreResult) :
    (s.completeWrite r).uptime = s.uptime ∧ (s.completeWrite r).resetKind = s.resetKind ∧
      (s.completeWrite r).resetCause = s.resetCause ∧ (s.completeWrite r).liu = s.liu ∧
      (s.completeWrite r).be = s.be ∧ (s.completeWrite r).su = s.su ∧ (s.completeWrite r).ch = s.ch ∧
      (s.completeWrite r).cg = s.cg ∧ (s.completeWrite r).sa = s.sa ∧ (s.completeWrite r).rc = s.rc ∧
      (s.completeWrite r).om = s.om ∧ (s.completeWrite r).ports = s.ports ∧ (s.completeWrite r).work = s.work ∧
      (s.completeWrite r).pending = s.pending := by
  unfold State.completeWrite
  try dsimp only
  (repeat' split) <;> simp

/-- Frame of `State.takeSnapshot`. -/
@[simp] theorem State.takeSnapshot_frame (s : State) :
    (s.takeSnapshot).uptime = s.uptime ∧ (s.takeSnapshot).resetKind = s.resetKind ∧
      (s.takeSnapshot).resetCause = s.resetCause ∧ (s.takeSnapshot).liu = s.liu ∧ (s.takeSnapshot).be = s.be ∧
      (s.takeSnapshot).su = s.su ∧ (s.takeSnapshot).ch = s.ch ∧ (s.takeSnapshot).cg = s.cg ∧
      (s.takeSnapshot).sa = s.sa ∧ (s.takeSnapshot).rc = s.rc ∧ (s.takeSnapshot).om = s.om ∧
      (s.takeSnapshot).alarms = s.alarms ∧ (s.takeSnapshot).rl = s.rl ∧ (s.takeSnapshot).ports = s.ports ∧
      (s.takeSnapshot).work = s.work ∧ (s.takeSnapshot).pending = s.pending := by
  unfold State.takeSnapshot
  try dsimp only
  (repeat' split) <;> simp

/-- Frame of `State.commitLevels`. -/
@[simp] theorem State.commitLevels_frame (s : State) :
    (s.commitLevels).uptime = s.uptime ∧ (s.commitLevels).resetKind = s.resetKind ∧
      (s.commitLevels).resetCause = s.resetCause ∧ (s.commitLevels).be = s.be ∧ (s.commitLevels).su = s.su ∧
      (s.commitLevels).ch = s.ch ∧ (s.commitLevels).cg = s.cg ∧ (s.commitLevels).sa = s.sa ∧
      (s.commitLevels).rc = s.rc ∧ (s.commitLevels).om = s.om ∧ (s.commitLevels).ports = s.ports ∧
      (s.commitLevels).ss = s.ss ∧ (s.commitLevels).work = s.work ∧ (s.commitLevels).pending = s.pending := by
  unfold State.commitLevels
  try dsimp only
  simp

/-- Frame of `State.commitTables`. -/
@[simp] theorem State.commitTables_frame (s : State) (old : List Nat) :
    (s.commitTables old).uptime = s.uptime ∧ (s.commitTables old).resetKind = s.resetKind ∧
      (s.commitTables old).resetCause = s.resetCause ∧ (s.commitTables old).liu = s.liu ∧
      (s.commitTables old).su = s.su ∧ (s.commitTables old).ch = s.ch ∧ (s.commitTables old).cg = s.cg ∧
      (s.commitTables old).sa = s.sa ∧ (s.commitTables old).rc = s.rc ∧ (s.commitTables old).om = s.om ∧
      (s.commitTables old).alarms = s.alarms ∧ (s.commitTables old).rl = s.rl ∧
      (s.commitTables old).ports = s.ports ∧ (s.commitTables old).ss = s.ss ∧
      (s.commitTables old).work = s.work ∧ (s.commitTables old).pending = s.pending := by
  unfold State.commitTables
  try dsimp only
  (repeat' split) <;> simp

/-- Frame of `State.commitPumpItems`. -/
@[simp] theorem State.commitPumpItems_frame (old : List Nat) (s : State) (p : Pump) :
    (State.commitPumpItems old s p).uptime = s.uptime ∧
      (State.commitPumpItems old s p).resetKind = s.resetKind ∧
      (State.commitPumpItems old s p).resetCause = s.resetCause ∧ (State.commitPumpItems old s p).liu = s.liu ∧
      (State.commitPumpItems old s p).be = s.be ∧ (State.commitPumpItems old s p).su = s.su ∧
      (State.commitPumpItems old s p).cg = s.cg ∧ (State.commitPumpItems old s p).sa = s.sa ∧
      (State.commitPumpItems old s p).rc = s.rc ∧ (State.commitPumpItems old s p).om = s.om ∧
      (State.commitPumpItems old s p).alarms = s.alarms ∧ (State.commitPumpItems old s p).rl = s.rl ∧
      (State.commitPumpItems old s p).ports = s.ports ∧ (State.commitPumpItems old s p).ss = s.ss ∧
      (State.commitPumpItems old s p).work = s.work ∧ (State.commitPumpItems old s p).pending = s.pending := by
  unfold State.commitPumpItems
  split <;> simp

/-- Frame of `State.makeAbsent`. -/
@[simp] theorem State.makeAbsent_frame (s : State) (p : Pump) :
    (s.makeAbsent p).uptime = s.uptime ∧ (s.makeAbsent p).resetKind = s.resetKind ∧
      (s.makeAbsent p).resetCause = s.resetCause ∧ (s.makeAbsent p).liu = s.liu ∧ (s.makeAbsent p).be = s.be ∧
      (s.makeAbsent p).rc = s.rc ∧ (s.makeAbsent p).om = s.om ∧ (s.makeAbsent p).ports = s.ports ∧
      (s.makeAbsent p).ss = s.ss ∧ (s.makeAbsent p).pending = s.pending := by
  unfold State.makeAbsent
  try dsimp only
  (repeat' split) <;> simp

/-- Frame of `State.makePresent`. -/
@[simp] theorem State.makePresent_frame (s : State) (p : Pump) :
    (s.makePresent p).uptime = s.uptime ∧ (s.makePresent p).resetKind = s.resetKind ∧
      (s.makePresent p).resetCause = s.resetCause ∧ (s.makePresent p).liu = s.liu ∧
      (s.makePresent p).be = s.be ∧ (s.makePresent p).rc = s.rc ∧ (s.makePresent p).om = s.om ∧
      (s.makePresent p).ports = s.ports ∧ (s.makePresent p).ss = s.ss ∧ (s.makePresent p).pending = s.pending := by
  unfold State.makePresent
  try dsimp only
  (repeat' split) <;> simp

/-- Frame of `State.commitPresence`. -/
@[simp] theorem State.commitPresence_frame (old : List Nat) (s : State) (p : Pump) :
    (State.commitPresence old s p).uptime = s.uptime ∧ (State.commitPresence old s p).resetKind = s.resetKind ∧
      (State.commitPresence old s p).resetCause = s.resetCause ∧ (State.commitPresence old s p).liu = s.liu ∧
      (State.commitPresence old s p).be = s.be ∧ (State.commitPresence old s p).rc = s.rc ∧
      (State.commitPresence old s p).om = s.om ∧ (State.commitPresence old s p).ports = s.ports ∧
      (State.commitPresence old s p).ss = s.ss ∧ (State.commitPresence old s p).pending = s.pending := by
  unfold State.commitPresence
  (repeat' split) <;> simp

/-- Frame of `State.commitRoster`. -/
@[simp] theorem State.commitRoster_frame (s : State) (old : List Nat) :
    (s.commitRoster old).uptime = s.uptime ∧ (s.commitRoster old).resetKind = s.resetKind ∧
      (s.commitRoster old).resetCause = s.resetCause ∧ (s.commitRoster old).liu = s.liu ∧
      (s.commitRoster old).be = s.be ∧ (s.commitRoster old).ch = s.ch ∧ (s.commitRoster old).cg = s.cg ∧
      (s.commitRoster old).sa = s.sa ∧ (s.commitRoster old).rc = s.rc ∧ (s.commitRoster old).om = s.om ∧
      (s.commitRoster old).alarms = s.alarms ∧ (s.commitRoster old).rl = s.rl ∧
      (s.commitRoster old).ports = s.ports ∧ (s.commitRoster old).ss = s.ss ∧
      (s.commitRoster old).work = s.work ∧ (s.commitRoster old).pending = s.pending := by
  unfold State.commitRoster
  try dsimp only
  (repeat' split) <;> simp

/-- Frame of `State.commitArbiter`. -/
@[simp] theorem State.commitArbiter_frame (s : State) (old : List Nat) :
    (s.commitArbiter old).uptime = s.uptime ∧ (s.commitArbiter old).resetKind = s.resetKind ∧
      (s.commitArbiter old).resetCause = s.resetCause ∧ (s.commitArbiter old).liu = s.liu ∧
      (s.commitArbiter old).be = s.be ∧ (s.commitArbiter old).rc = s.rc ∧ (s.commitArbiter old).om = s.om ∧
      (s.commitArbiter old).alarms = s.alarms ∧ (s.commitArbiter old).rl = s.rl ∧
      (s.commitArbiter old).ports = s.ports ∧ (s.commitArbiter old).ss = s.ss ∧
      (s.commitArbiter old).pending = s.pending := by
  unfold State.commitArbiter
  try dsimp only
  (repeat' split) <;> simp

/-- Frame of `State.takeGrant`. -/
@[simp] theorem State.takeGrant_frame (s : State) (g : GuardPair) :
    (s.takeGrant g).uptime = s.uptime ∧ (s.takeGrant g).resetKind = s.resetKind ∧
      (s.takeGrant g).resetCause = s.resetCause ∧ (s.takeGrant g).liu = s.liu ∧ (s.takeGrant g).be = s.be ∧
      (s.takeGrant g).om = s.om ∧ (s.takeGrant g).alarms = s.alarms ∧ (s.takeGrant g).rl = s.rl ∧
      (s.takeGrant g).ports = s.ports ∧ (s.takeGrant g).ss = s.ss ∧ (s.takeGrant g).pending = s.pending := by
  unfold State.takeGrant
  try dsimp only
  (repeat' split) <;> simp

/-- Frame of `State.commitGuard`. -/
@[simp] theorem State.commitGuard_frame (s : State) (old : List Nat) :
    (s.commitGuard old).uptime = s.uptime ∧ (s.commitGuard old).resetKind = s.resetKind ∧
      (s.commitGuard old).resetCause = s.resetCause ∧ (s.commitGuard old).liu = s.liu ∧
      (s.commitGuard old).be = s.be ∧ (s.commitGuard old).om = s.om ∧ (s.commitGuard old).alarms = s.alarms ∧
      (s.commitGuard old).rl = s.rl ∧ (s.commitGuard old).ports = s.ports ∧ (s.commitGuard old).ss = s.ss ∧
      (s.commitGuard old).pending = s.pending := by
  unfold State.commitGuard
  try dsimp only
  (repeat' split) <;> simp [Pump.all]

/-- Frame of `State.intervalExpiry`. -/
@[simp] theorem State.intervalExpiry_frame (s : State) :
    (s.intervalExpiry).uptime = s.uptime ∧ (s.intervalExpiry).resetKind = s.resetKind ∧
      (s.intervalExpiry).resetCause = s.resetCause ∧ (s.intervalExpiry).liu = s.liu ∧
      (s.intervalExpiry).be = s.be ∧ (s.intervalExpiry).su = s.su ∧ (s.intervalExpiry).ch = s.ch ∧
      (s.intervalExpiry).cg = s.cg ∧ (s.intervalExpiry).sa = s.sa ∧ (s.intervalExpiry).om = s.om ∧
      (s.intervalExpiry).alarms = s.alarms ∧ (s.intervalExpiry).rl = s.rl ∧
      (s.intervalExpiry).ports = s.ports ∧ (s.intervalExpiry).ss = s.ss ∧ (s.intervalExpiry).pending = s.pending := by
  unfold State.intervalExpiry
  try dsimp only
  simp

/-- Frame of `State.commitInterval`. -/
@[simp] theorem State.commitInterval_frame (s : State) (old : List Nat) :
    (s.commitInterval old).uptime = s.uptime ∧ (s.commitInterval old).resetKind = s.resetKind ∧
      (s.commitInterval old).resetCause = s.resetCause ∧ (s.commitInterval old).liu = s.liu ∧
      (s.commitInterval old).be = s.be ∧ (s.commitInterval old).su = s.su ∧ (s.commitInterval old).ch = s.ch ∧
      (s.commitInterval old).cg = s.cg ∧ (s.commitInterval old).sa = s.sa ∧ (s.commitInterval old).om = s.om ∧
      (s.commitInterval old).alarms = s.alarms ∧ (s.commitInterval old).rl = s.rl ∧
      (s.commitInterval old).ports = s.ports ∧ (s.commitInterval old).ss = s.ss ∧
      (s.commitInterval old).pending = s.pending := by
  unfold State.commitInterval
  try dsimp only
  (repeat' split) <;> simp

/-- Frame of `State.commitRake`. -/
@[simp] theorem State.commitRake_frame (s : State) (old : List Nat) :
    (s.commitRake old).uptime = s.uptime ∧ (s.commitRake old).resetKind = s.resetKind ∧
      (s.commitRake old).resetCause = s.resetCause ∧ (s.commitRake old).liu = s.liu ∧
      (s.commitRake old).be = s.be ∧ (s.commitRake old).su = s.su ∧ (s.commitRake old).ch = s.ch ∧
      (s.commitRake old).cg = s.cg ∧ (s.commitRake old).sa = s.sa ∧ (s.commitRake old).om = s.om ∧
      (s.commitRake old).ports = s.ports ∧ (s.commitRake old).ss = s.ss ∧ (s.commitRake old).pending = s.pending := by
  unfold State.commitRake
  try dsimp only
  (repeat' split) <;> simp

/-- Frame of `State.commitOverflow`. -/
@[simp] theorem State.commitOverflow_frame (s : State) (old : List Nat) :
    (s.commitOverflow old).uptime = s.uptime ∧ (s.commitOverflow old).resetKind = s.resetKind ∧
      (s.commitOverflow old).resetCause = s.resetCause ∧ (s.commitOverflow old).liu = s.liu ∧
      (s.commitOverflow old).su = s.su ∧ (s.commitOverflow old).ch = s.ch ∧ (s.commitOverflow old).cg = s.cg ∧
      (s.commitOverflow old).sa = s.sa ∧ (s.commitOverflow old).rc = s.rc ∧
      (s.commitOverflow old).ports = s.ports ∧ (s.commitOverflow old).ss = s.ss ∧
      (s.commitOverflow old).work = s.work ∧ (s.commitOverflow old).pending = s.pending := by
  unfold State.commitOverflow
  try dsimp only
  (repeat' split) <;> simp

/-- Frame of `State.commitSummary`. -/
@[simp] theorem State.commitSummary_frame (s : State) (old : List Nat) :
    (s.commitSummary old).uptime = s.uptime ∧ (s.commitSummary old).resetKind = s.resetKind ∧
      (s.commitSummary old).resetCause = s.resetCause ∧ (s.commitSummary old).liu = s.liu ∧
      (s.commitSummary old).su = s.su ∧ (s.commitSummary old).ch = s.ch ∧ (s.commitSummary old).cg = s.cg ∧
      (s.commitSummary old).sa = s.sa ∧ (s.commitSummary old).rc = s.rc ∧ (s.commitSummary old).om = s.om ∧
      (s.commitSummary old).ports = s.ports ∧ (s.commitSummary old).ss = s.ss ∧
      (s.commitSummary old).work = s.work ∧ (s.commitSummary old).pending = s.pending := by
  unfold State.commitSummary
  try dsimp only
  (repeat' split) <;> simp

/-- Frame of `State.commitPoint`. -/
@[simp] theorem State.commitPoint_frame (old : List Nat) (s : State) (n : Nat) :
    (State.commitPoint old s n).uptime = s.uptime ∧ (State.commitPoint old s n).resetKind = s.resetKind ∧
      (State.commitPoint old s n).resetCause = s.resetCause ∧ (State.commitPoint old s n).liu = s.liu ∧
      (State.commitPoint old s n).be = s.be ∧ (State.commitPoint old s n).su = s.su ∧
      (State.commitPoint old s n).ch = s.ch ∧ (State.commitPoint old s n).cg = s.cg ∧
      (State.commitPoint old s n).sa = s.sa ∧ (State.commitPoint old s n).rc = s.rc ∧
      (State.commitPoint old s n).om = s.om ∧ (State.commitPoint old s n).ports = s.ports ∧
      (State.commitPoint old s n).ss = s.ss ∧ (State.commitPoint old s n).work = s.work ∧
      (State.commitPoint old s n).pending = s.pending := by
  unfold State.commitPoint
  dsimp only
  (repeat' split) <;> simp

/-- Frame of the commit at a list of points. -/
theorem State.commitPoints_frame (old : List Nat) (l : List Nat) (s : State) :
    (l.foldl (State.commitPoint old) s).uptime = s.uptime ∧
      (l.foldl (State.commitPoint old) s).resetKind = s.resetKind ∧
      (l.foldl (State.commitPoint old) s).resetCause = s.resetCause ∧
      (l.foldl (State.commitPoint old) s).liu = s.liu ∧ (l.foldl (State.commitPoint old) s).be = s.be ∧
      (l.foldl (State.commitPoint old) s).su = s.su ∧ (l.foldl (State.commitPoint old) s).ch = s.ch ∧
      (l.foldl (State.commitPoint old) s).cg = s.cg ∧ (l.foldl (State.commitPoint old) s).sa = s.sa ∧
      (l.foldl (State.commitPoint old) s).rc = s.rc ∧ (l.foldl (State.commitPoint old) s).om = s.om ∧
      (l.foldl (State.commitPoint old) s).ports = s.ports ∧ (l.foldl (State.commitPoint old) s).ss = s.ss ∧
      (l.foldl (State.commitPoint old) s).work = s.work ∧
      (l.foldl (State.commitPoint old) s).pending = s.pending := by
  induction l generalizing s with
  | nil => simp
  | cons n l ih => simp [ih]

/-- Frame of `State.commitAlarms`. -/
@[simp] theorem State.commitAlarms_frame (s : State) (old : List Nat) :
    (s.commitAlarms old).uptime = s.uptime ∧ (s.commitAlarms old).resetKind = s.resetKind ∧
      (s.commitAlarms old).resetCause = s.resetCause ∧ (s.commitAlarms old).liu = s.liu ∧
      (s.commitAlarms old).be = s.be ∧ (s.commitAlarms old).su = s.su ∧ (s.commitAlarms old).ch = s.ch ∧
      (s.commitAlarms old).cg = s.cg ∧ (s.commitAlarms old).sa = s.sa ∧ (s.commitAlarms old).rc = s.rc ∧
      (s.commitAlarms old).om = s.om ∧ (s.commitAlarms old).ports = s.ports ∧ (s.commitAlarms old).ss = s.ss ∧
      (s.commitAlarms old).work = s.work ∧ (s.commitAlarms old).pending = s.pending := by
  simp [State.commitAlarms, State.commitPoints_frame]

/-- Frame of `State.commitLink`. -/
@[simp] theorem State.commitLink_frame (s : State) (old : List Nat) (p : Port) (k : Nat) :
    (s.commitLink old p k).uptime = s.uptime ∧ (s.commitLink old p k).resetKind = s.resetKind ∧
      (s.commitLink old p k).resetCause = s.resetCause ∧ (s.commitLink old p k).rc = s.rc ∧
      (s.commitLink old p k).om = s.om ∧ (s.commitLink old p k).pending = s.pending := by
  unfold State.commitLink
  try dsimp only
  (repeat' split) <;> simp

/-- Frame of `State.commitDuty`. -/
@[simp] theorem State.commitDuty_frame (s : State) (old : List Nat) :
    (s.commitDuty old).uptime = s.uptime ∧ (s.commitDuty old).resetKind = s.resetKind ∧
      (s.commitDuty old).resetCause = s.resetCause ∧ (s.commitDuty old).liu = s.liu ∧
      (s.commitDuty old).be = s.be ∧ (s.commitDuty old).ch = s.ch ∧ (s.commitDuty old).cg = s.cg ∧
      (s.commitDuty old).sa = s.sa ∧ (s.commitDuty old).rc = s.rc ∧ (s.commitDuty old).om = s.om ∧
      (s.commitDuty old).alarms = s.alarms ∧ (s.commitDuty old).rl = s.rl ∧
      (s.commitDuty old).ports = s.ports ∧ (s.commitDuty old).ss = s.ss ∧ (s.commitDuty old).work = s.work ∧
      (s.commitDuty old).pending = s.pending := by
  unfold State.commitDuty
  try dsimp only
  (repeat' split) <;> simp

/-- Frame of `State.commitStaging`. -/
@[simp] theorem State.commitStaging_frame (s : State) (old : List Nat) :
    (s.commitStaging old).uptime = s.uptime ∧ (s.commitStaging old).resetKind = s.resetKind ∧
      (s.commitStaging old).resetCause = s.resetCause ∧ (s.commitStaging old).liu = s.liu ∧
      (s.commitStaging old).be = s.be ∧ (s.commitStaging old).ch = s.ch ∧ (s.commitStaging old).cg = s.cg ∧
      (s.commitStaging old).sa = s.sa ∧ (s.commitStaging old).rc = s.rc ∧ (s.commitStaging old).om = s.om ∧
      (s.commitStaging old).alarms = s.alarms ∧ (s.commitStaging old).rl = s.rl ∧
      (s.commitStaging old).ports = s.ports ∧ (s.commitStaging old).ss = s.ss ∧
      (s.commitStaging old).work = s.work ∧ (s.commitStaging old).pending = s.pending := by
  unfold State.commitStaging
  try dsimp only
  (repeat' split) <;> simp

/-- Frame of `State.applyCommit`. -/
@[simp] theorem State.applyCommit_frame (s : State) (old : List Nat) :
    (s.applyCommit old).uptime = s.uptime ∧ (s.applyCommit old).resetKind = s.resetKind ∧
      (s.applyCommit old).resetCause = s.resetCause ∧ (s.applyCommit old).pending = s.pending := by
  unfold State.applyCommit
  try dsimp only
  simp [Pump.all]

/-- Frame of `State.commit`. -/
@[simp] theorem State.commit_frame (s : State) (p : Port) :
    (s.commit p).uptime = s.uptime ∧ (s.commit p).resetKind = s.resetKind ∧
      (s.commit p).resetCause = s.resetCause ∧ (s.commit p).pending = s.pending := by
  unfold State.commit
  try dsimp only
  simp

end Sys2Proof.Machine
end

