-- ==== Sys2Proof/Laws/PerInstr.lean ====
section
/-! SUPPORT. The family FrameLength over the constructors of `Instr`: the length of a request's frame. -/

namespace Sys2Proof.Laws

/-- A number in `n` bytes has `n` bytes (R173). -/
@[simp] theorem beBytes_length (n v : Nat) : (Machine.beBytes n v).length = n := by
  induction n with
  | zero => rfl
  | succ n ih => simp [Machine.beBytes, ih]

/-- A check value adds two bytes (R174). -/
@[simp] theorem withCheck_length (bs : List Byte) : (Machine.withCheck bs).length = bs.length + 2 := by
  simp [Machine.withCheck]

/-- R146: a request frame has 5 to 11 bytes, and five more than its parameters. -/
def FrameLength.Statement (i : Instr) : Prop :=
  ∀ p f, Machine.encodeFrame i = some (p, f) →
    5 ≤ f.length ∧ f.length ≤ 11 ∧ ∀ q t c ps, Machine.requestBody i = some (q, t, c, ps) → f.length = ps.length + 5

/-- The frame of a command with a request body of at most six parameter bytes. -/
theorem frameLength_request {i : Instr} {p : Port} {t : Byte} {c : Nat} {ps : List Byte}
    (h : Machine.requestBody i = some (p, t, c, ps)) (hl : ps.length ≤ 6) : FrameLength.Statement i := by
  intro q f hf
  simp only [Machine.encodeFrame, h, Option.some.injEq, Prod.mk.injEq] at hf
  obtain ⟨_, rfl⟩ := hf
  have e : (Machine.withCheck (BitVec.ofNat 8 (ps.length + 5) :: t :: BitVec.ofNat 8 c :: ps)).length = ps.length + 5 := by
    simp
  refine ⟨by omega, by omega, ?_⟩
  intro q' t' c' ps' h'
  rw [h] at h'
  cases h'
  exact e

/-- A command that is no request has no frame. -/
theorem frameLength_none {i : Instr} (h : Machine.requestBody i = none) : FrameLength.Statement i := by
  intro p f hf
  simp [Machine.encodeFrame, h] at hf

theorem FrameLength.reset (cause : ResetEvent) : FrameLength.Statement (.reset cause) :=
  frameLength_none rfl

theorem FrameLength.sampleEvent (c : Loop) (raw : BitVec 12) : FrameLength.Statement (.sampleEvent c raw) :=
  frameLength_none rfl

theorem FrameLength.rawInputChange (k : Fin 40) (v : Bool) : FrameLength.Statement (.rawInputChange k v) :=
  frameLength_none rfl

theorem FrameLength.inputChange (k : Fin 40) : FrameLength.Statement (.inputChange k) :=
  frameLength_none rfl

theorem FrameLength.disagreeTimerEnd : FrameLength.Statement .disagreeTimerEnd :=
  frameLength_none rfl

theorem FrameLength.flowTick : FrameLength.Statement .flowTick :=
  frameLength_none rfl

theorem FrameLength.balanceTick : FrameLength.Statement .balanceTick :=
  frameLength_none rfl

theorem FrameLength.summaryBoundary : FrameLength.Statement .summaryBoundary :=
  frameLength_none rfl

theorem FrameLength.clockAdvance : FrameLength.Statement .clockAdvance :=
  frameLength_none rfl

theorem FrameLength.manualEntryExpiry (p : Pump) : FrameLength.Statement (.manualEntryExpiry p) :=
  frameLength_none rfl

theorem FrameLength.dutyHoldExpiry : FrameLength.Statement .dutyHoldExpiry :=
  frameLength_none rfl

theorem FrameLength.handoverTimeout : FrameLength.Statement .handoverTimeout :=
  frameLength_none rfl

theorem FrameLength.dolRunupEnd (p : Pump) : FrameLength.Statement (.dolRunupEnd p) :=
  frameLength_none rfl

theorem FrameLength.starTimerEnd (p : Pump) : FrameLength.Statement (.starTimerEnd p) :=
  frameLength_none rfl

theorem FrameLength.guardGrant (g : GuardPair) : FrameLength.Statement (.guardGrant g) :=
  frameLength_none rfl

theorem FrameLength.minRunEnd (p : Pump) : FrameLength.Statement (.minRunEnd p) :=
  frameLength_none rfl

theorem FrameLength.feedbackDeadline (p : Pump) : FrameLength.Statement (.feedbackDeadline p) :=
  frameLength_none rfl

theorem FrameLength.restEnd (p : Pump) : FrameLength.Statement (.restEnd p) :=
  frameLength_none rfl

theorem FrameLength.restartHoldEnd : FrameLength.Statement .restartHoldEnd :=
  frameLength_none rfl

theorem FrameLength.staggerEnd : FrameLength.Statement .staggerEnd :=
  frameLength_none rfl

theorem FrameLength.historyWindowEnd : FrameLength.Statement .historyWindowEnd :=
  frameLength_none rfl

theorem FrameLength.rakeInrushTimerEnd : FrameLength.Statement .rakeInrushTimerEnd :=
  frameLength_none rfl

theorem FrameLength.rakeTravelTimeout : FrameLength.Statement .rakeTravelTimeout :=
  frameLength_none rfl

theorem FrameLength.jamBackoffEnd : FrameLength.Statement .jamBackoffEnd :=
  frameLength_none rfl

theorem FrameLength.dischargeEnd : FrameLength.Statement .dischargeEnd :=
  frameLength_none rfl

theorem FrameLength.rakeIntervalExpiry : FrameLength.Statement .rakeIntervalExpiry :=
  frameLength_none rfl

theorem FrameLength.blindingTimerEnd : FrameLength.Statement .blindingTimerEnd :=
  frameLength_none rfl

theorem FrameLength.overflowOpenTimerEnd : FrameLength.Statement .overflowOpenTimerEnd :=
  frameLength_none rfl

theorem FrameLength.overflowCloseTimerEnd : FrameLength.Statement .overflowCloseTimerEnd :=
  frameLength_none rfl

theorem FrameLength.overflowRecordUpdate : FrameLength.Statement .overflowRecordUpdate :=
  frameLength_none rfl

theorem FrameLength.simTimeLimit : FrameLength.Statement .simTimeLimit :=
  frameLength_none rfl

theorem FrameLength.linkTimeout (p : Port) : FrameLength.Statement (.linkTimeout p) :=
  frameLength_none rfl

theorem FrameLength.storeWriteComplete (r : StoreResult) : FrameLength.Statement (.storeWriteComplete r) :=
  frameLength_none rfl

theorem FrameLength.snapshotDue : FrameLength.Statement .snapshotDue :=
  frameLength_none rfl

theorem FrameLength.readReply (p : Port) (n : Nat) : FrameLength.Statement (.readReply p n) :=
  frameLength_none rfl

theorem FrameLength.malformedFrame (p : Port) (dir : Byte) (frame : List Byte) :
    FrameLength.Statement (.malformedFrame p dir frame) :=
  frameLength_none rfl

theorem FrameLength.unknownRequest (p : Port) (tag : Byte) (code : Byte) :
    FrameLength.Statement (.unknownRequest p tag code) :=
  frameLength_none rfl

theorem FrameLength.readIdentity (p : Port) (tag : Byte) : FrameLength.Statement (.readIdentity p tag) :=
  frameLength_request rfl (by simp)

theorem FrameLength.readStatus (p : Port) (tag : Byte) (sect : Byte) :
    FrameLength.Statement (.readStatus p tag sect) :=
  frameLength_request rfl (by simp)

theorem FrameLength.readRefusal (p : Port) (tag : Byte) : FrameLength.Statement (.readRefusal p tag) :=
  frameLength_request rfl (by simp)

theorem FrameLength.setAttention (p : Port) (tag : Byte) (threshold : Byte) :
    FrameLength.Statement (.setAttention p tag threshold) :=
  frameLength_request rfl (by simp)

theorem FrameLength.readInputs (p : Port) (tag : Byte) : FrameLength.Statement (.readInputs p tag) :=
  frameLength_request rfl (by simp)

theorem FrameLength.simEnter (p : Port) (tag : Byte) (wellMm inletMm : BitVec 16) :
    FrameLength.Statement (.simEnter p tag wellMm inletMm) :=
  frameLength_request rfl (by simp)

theorem FrameLength.simSet (p : Port) (tag : Byte) (wellMm inletMm : BitVec 16) :
    FrameLength.Statement (.simSet p tag wellMm inletMm) :=
  frameLength_request rfl (by simp)

theorem FrameLength.simExit (p : Port) (tag : Byte) : FrameLength.Statement (.simExit p tag) :=
  frameLength_request rfl (by simp)

theorem FrameLength.pumpManual (p : Port) (tag : Byte) (pump : Byte) (act : Action) (lease : BitVec 16) :
    FrameLength.Statement (.pumpManual p tag pump act lease) :=
  frameLength_request rfl (by simp)

theorem FrameLength.pumpRelease (p : Port) (tag : Byte) (pump : Byte) :
    FrameLength.Statement (.pumpRelease p tag pump) :=
  frameLength_request rfl (by simp)

theorem FrameLength.resetLockout (p : Port) (tag : Byte) (pump : Byte) :
    FrameLength.Statement (.resetLockout p tag pump) :=
  frameLength_request rfl (by simp)

theorem FrameLength.rakeRequest (p : Port) (tag : Byte) : FrameLength.Statement (.rakeRequest p tag) :=
  frameLength_request rfl (by simp)

theorem FrameLength.resetScreen (p : Port) (tag : Byte) : FrameLength.Statement (.resetScreen p tag) :=
  frameLength_request rfl (by simp)

theorem FrameLength.readAlarms (p : Port) (tag : Byte) : FrameLength.Statement (.readAlarms p tag) :=
  frameLength_request rfl (by simp)

theorem FrameLength.readAttention (p : Port) (tag : Byte) : FrameLength.Statement (.readAttention p tag) :=
  frameLength_request rfl (by simp)

theorem FrameLength.ackAlarm (p : Port) (tag : Byte) (point : Byte) :
    FrameLength.Statement (.ackAlarm p tag point) :=
  frameLength_request rfl (by simp)

theorem FrameLength.readLog (p : Port) (tag : Byte) (count : Byte) :
    FrameLength.Statement (.readLog p tag count) :=
  frameLength_request rfl (by simp)

theorem FrameLength.seekLog (p : Port) (tag : Byte) (seq : BitVec 32) :
    FrameLength.Statement (.seekLog p tag seq) :=
  frameLength_request rfl (by simp)

theorem FrameLength.releaseLog (p : Port) (tag : Byte) (seq : BitVec 32) :
    FrameLength.Statement (.releaseLog p tag seq) :=
  frameLength_request rfl (by simp)

theorem FrameLength.setClock (p : Port) (tag : Byte) (time : BitVec 32) :
    FrameLength.Statement (.setClock p tag time) :=
  frameLength_request rfl (by simp)

theorem FrameLength.readSetting (p : Port) (tag : Byte) (item : BitVec 16) :
    FrameLength.Statement (.readSetting p tag item) :=
  frameLength_request rfl (by simp)

theorem FrameLength.editSetting (p : Port) (tag : Byte) (item : BitVec 16) (value : BitVec 32) :
    FrameLength.Statement (.editSetting p tag item value) :=
  frameLength_request rfl (by simp)

theorem FrameLength.commitSettings (p : Port) (tag : Byte) : FrameLength.Statement (.commitSettings p tag) :=
  frameLength_request rfl (by simp)

theorem FrameLength.discardSettings (p : Port) (tag : Byte) :
    FrameLength.Statement (.discardSettings p tag) :=
  frameLength_request rfl (by simp)

theorem FrameLength.backupDomainSupplyLoss : FrameLength.Statement .backupDomainSupplyLoss :=
  frameLength_none rfl

end Sys2Proof.Laws
end

