-- ==== Sys2Proof/WellFormed.lean ====
section
/-! DEFINITION. When the operands of a command are those of the row it stands for. -/

namespace Sys2Proof

/-- R146: a MALFORMED_FRAME is an arrival whose frame is malformed, and an UNKNOWN_REQUEST has a code that
Table 11-3 does not hold. Every other command's operands are within their rows by their types. -/
def Instr.wellFormed : Instr → Bool
  | .malformedFrame p dir f =>
    match Machine.classifyArrival p dir f with
    | some (.malformed _) => true
    | _ => false
  | .unknownRequest _ _ code => (Machine.paramLength code.toNat).isNone
  | .reset _ | .sampleEvent _ _ | .rawInputChange _ _ | .inputChange _ | .disagreeTimerEnd | .flowTick
  | .balanceTick | .summaryBoundary | .clockAdvance | .manualEntryExpiry _ | .dutyHoldExpiry
  | .handoverTimeout | .dolRunupEnd _ | .starTimerEnd _ | .guardGrant _ | .minRunEnd _
  | .feedbackDeadline _ | .restEnd _ | .restartHoldEnd | .staggerEnd | .historyWindowEnd
  | .rakeInrushTimerEnd | .rakeTravelTimeout | .jamBackoffEnd | .dischargeEnd | .rakeIntervalExpiry
  | .blindingTimerEnd | .overflowOpenTimerEnd | .overflowCloseTimerEnd | .overflowRecordUpdate
  | .simTimeLimit | .linkTimeout _ | .storeWriteComplete _ | .snapshotDue | .readReply _ _
  | .readIdentity _ _ | .readStatus _ _ _ | .readRefusal _ _ | .setAttention _ _ _ | .readInputs _ _
  | .simEnter _ _ _ _ | .simSet _ _ _ _ | .simExit _ _ | .pumpManual _ _ _ _ _ | .pumpRelease _ _ _
  | .resetLockout _ _ _ | .rakeRequest _ _ | .resetScreen _ _ | .readAlarms _ _ | .readAttention _ _
  | .ackAlarm _ _ _ | .readLog _ _ _ | .seekLog _ _ _ | .releaseLog _ _ _ | .setClock _ _ _
  | .readSetting _ _ _ | .editSetting _ _ _ _ | .commitSettings _ _ | .discardSettings _ _
  | .backupDomainSupplyLoss => true

end Sys2Proof
end

