-- ==== Sys2Proof/Tests/Slice0.lean ====
section
/-! SUPPORT. Small tests of the model, each expected value written out from the manual, and for every
statement with hypotheses a witness that they can be met together, clause by clause. -/

namespace Sys2Proof.Tests

open Sys2Proof.Machine

/-! ### States -/

/-- The state after reset at another uptime. -/
def late (u : Nat) : State := { State.reset with uptime := u }

/-- Inputs made active, raw and debounced. -/
def withInputs (l : List Nat) (s : State) : State :=
  { s with
    liu :=
      { s.liu with
        raw := l.foldl (fun x k => putBit x k true) s.liu.raw
        deb := l.foldl (fun x k => putBit x k true) s.liu.deb } }

/-- The supply on the mains with a running limit of 3, the LOW float made, and nothing else done. -/
def powered (u : Nat) : State :=
  withInputs [34, 36] { late u with sa := { State.reset.sa with power := .mains, limit := 3 } }

/-- One pump's channel under AUTO in a state. -/
def autoIn (st : ChState) (p : Pump) (s : State) : State := s.mapCh p fun c => { c with state := st, source := .auto }

/-- One alarm record's state and condition. -/
def alarmIn (n : Nat) (st : AlState) (c : Bool) (s : State) : State := s.setPoint n { s.point n with state := st, cond := c }

/-- A session with both levels at `l`, begun at `u`. -/
def simulated (l u : Nat) (s : State) : State := { s with liu := { s.liu with sim := some ⟨l, l, u⟩ } }

/-- The WELL channel GOOD with a level. -/
def wellAt (l : Nat) (s : State) : State :=
  { s with
    liu :=
      { s.liu with
        chan :=
          { s.liu.chan with
            well := { s.liu.chan.well with state := .good, hist := List.replicate 8 l, level := some l } } } }

/-- A port's link LIVE. -/
def linked (p : Port) (s : State) : State := s.mapPort p fun c => { c with link := .live }

/-- The next state of a command, where it has one. -/
def after (c : Instr) (s : State) : State :=
  match exec c s with
  | .next t => t
  | .fault _ => s
  | .refused _ => s

/-- The reply in a port's buffer, read or not. -/
def replyOf (p : Port) (s : State) : Option Reply :=
  match (s.ports.get p).buffer with
  | .ready r => some r
  | .taken r => some r
  | .empty => none

/-- The payload of the reply in a port's buffer. -/
def payloadOf (p : Port) (s : State) : Option (List Byte) := (replyOf p s).map Reply.payload

/-- The refusal of the reply in a port's buffer. -/
def refusalOf (p : Port) (s : State) : Option (Reason × Option Nat) := (replyOf p s).bind Reply.refusal

/-! ### Well-formedness: each check refuses an ill-formed term -/

/-- An intact READ_IDENTITY frame is not malformed (R146). -/
theorem test_wellFormed_malformed_refused :
    (Instr.malformedFrame .panel 0x5A [0x05, 0x01, 0x01, 0x04, 0x7C]).wellFormed = false := by decide +kernel

/-- A READ direction byte brings no frame (R145). -/
theorem test_wellFormed_read_refused : (Instr.malformedFrame .panel 0xA5 [0x05]).wellFormed = false := by decide +kernel

/-- A frame with a wrong check value is malformed (R146). -/
theorem test_wellFormed_malformed_kept :
    (Instr.malformedFrame .panel 0x5A [0x05, 0x01, 0x01, 0x04, 0x7D]).wellFormed = true := by decide +kernel

/-- 02 is a request of Table 11-3. -/
theorem test_wellFormed_unknown_refused : (Instr.unknownRequest .panel 1 0x02).wellFormed = false := by decide

/-- 7F is not. -/
theorem test_wellFormed_unknown_kept : (Instr.unknownRequest .panel 1 0x7F).wellFormed = true := by decide

/-! ### Bytes -/

/-- R174's register over the nine digits gives the known check value of its generator and start. -/
theorem test_crc_digits : crc [0x31, 0x32, 0x33, 0x34, 0x35, 0x36, 0x37, 0x38, 0x39] = 0x29B1#16 := by decide +kernel

/-- SET_ATTENTION 2 on the panel, written out (Tables 11-2 and 11-3). -/
theorem test_frame_setAttention :
    classifyFrame .panel [0x06, 0x2A, 0x04, 0x02, (withCheck [0x06, 0x2A, 0x04, 0x02]).getD 4 0,
      (withCheck [0x06, 0x2A, 0x04, 0x02]).getD 5 0] = .wellFormed (.setAttention .panel 0x2A 2) := by decide +kernel

/-- SET_CLOCK 1 from the town, with its check value worked out apart. -/
theorem test_frame_setClock :
    classifyFrame .town [0x09, 0x02, 0x53, 0x32, 0x00, 0x00, 0x01, 0x7B, 0x02] =
      .wellFormed (.setClock .town 2 0x32000001) := by decide +kernel

/-- READ_STATUS of section 4 on the panel, with its check value worked out apart. -/
theorem test_frame_readStatus :
    classifyFrame .panel [0x06, 0x2A, 0x02, 0x04, 0xC4, 0xB8] = .wellFormed (.readStatus .panel 0x2A 4) := by decide +kernel

/-- No row of the table has bits. -/
theorem test_table_words (n w : Nat) : decodeTableWord n w = none := rfl

/-- R173: the 40 inputs, 0 to 7 in the first byte. -/
theorem test_inputBits : inputBits (putBit (putBit 0#40 0 true) 39 true) = [1, 0, 0, 0, 0x80] := by decide

/-! ### Reset -/

/-- A part as a loss of the backup domain and of the image leaves it, before the reset. -/
def blank : State := { late 123 with ss := { State.reset.ss with marker := false }, rl := { State.reset.rl with log := [] } }

/-- R171: the reset's meaning gives State.reset. -/
theorem test_reset_is_reset : blank.restart .power 0 = State.reset := by decide +kernel

/-- 0.15: a warm reset keeps the log and appends RESTART. -/
theorem test_reset_warm :
    ((after (.reset ⟨.pin, 0⟩) (late 123)).rl.log.map LogRec.body).take 5 =
      (State.reset.rl.log.map LogRec.body) ++ [.restart .warm .pin] := by decide +kernel

/-- R141: a clock at 7 with 5 ms of its second to run has advanced 3 times where the part was away 2100 ms, and
its next advance is 905 ms on. -/
theorem test_reset_clock_runs_on :
    let s : State := { late 1000 with rl := { State.reset.rl with clock := 7, clockValid := true, nextAdvance := some 1005 } }
    let r := (after (.reset ⟨.power, 2100⟩) s).rl
    (r.clock, r.clockValid, r.nextAdvance) = (10, true, some 905) := by decide +kernel

/-! ### Levels, inputs and the balance -/

/-- R1's worked number: with the default calibration 683 is 0 mm and 2730 is 10000 mm. -/
theorem test_level_of : ((⟨683, 2730, 10000⟩ : Cal).levelOf 683, (⟨683, 2730, 10000⟩ : Cal).levelOf 3413) = (0, 10000) := by
  decide

/-- R5: eight good samples bring a channel from INIT to GOOD. -/
theorem test_init_to_good :
    let c := (List.range 8).foldl (fun c _ => (LevelChan.sample c 1000#12).1) State.reset.liu.chan.well
    (c.state, c.level) = (.good, some 1161) := by decide +kernel

/-- R9: input 36 takes 2 s. -/
theorem test_float_debounce :
    let s := after (.rawInputChange 36 true) (late 1000)
    ((after (.inputChange 36) { s with uptime := 2999 }).lowMade,
      (after (.inputChange 36) { s with uptime := 3000 }).lowMade) = (false, true) := by decide +kernel

/-- R19: the volume table of the factory defaults at 1500 mm lies halfway from 40000 to 90000. -/
theorem test_interp_volume : interp (volumeTable factoryDefaults) 1500 = 65000 := by decide +kernel

/-- A clock set at uptime 5 and standing at 7. -/
def ticking (u : Nat) : State :=
  { late u with rl := { State.reset.rl with clock := 7, clockValid := true, nextAdvance := some 1005 } }

/-- R141: the clock advances by 1 a second after it was set, and not before. -/
theorem test_clock_advance :
    ((after .clockAdvance (ticking 1004)).rl.clock, (after .clockAdvance (ticking 1005)).rl.clock) = (7, 8) := by
  decide +kernel

/-- R142: setting the clock begins a new second, whatever was due. -/
theorem test_clock_set_restarts :
    let s := after (.setClock .town 1 77) (ticking 1500)
    ((after .clockAdvance s).rl.clock, (after .clockAdvance { s with uptime := 2500 }).rl.clock) = (77, 78) := by
  decide +kernel

/-- R25: the tenth flow tick of an interval closes it. -/
theorem test_flow_tick_closes :
    let s := { late 10000 with be := { State.reset.be with ticks := 9, p := 40, nextFlow := 10000 } }
    let t := after .flowTick s
    (t.be.ticks, t.be.p, t.be.lastP, t.be.nextFlow) = (0, 0, 40, 11000) := by decide +kernel

/-- R101: a cycle whose first DOWN comes only in JAM_BACKOFF still reports its first motion. -/
theorem test_first_motion_late :
    let s := ({ powered 900 with
      rc := { State.reset.rc with state := .jamBackoff, purpose := .cycle, firstPending := true }
      sa := { (powered 900).sa with holder := .rake } } : State).setPair .rake ⟨false, false, some 100, none, some .second⟩
    let t := after (.guardGrant .rake) s
    (t.rakeDown, t.sa.rakeInrush, t.rc.firstPending) = (true, some 2900, false) := by decide +kernel

/-! ### Pumps, rake and alarms -/

/-- R58: a run-up that ends brings RUNNING and frees the permit. -/
theorem test_runup_end :
    let s := (autoIn .direct .p1 (powered 9000)).mapCh .p1 fun c => { c with seqTimer := some 9000 }
    let t := after (.dolRunupEnd .p1) { s with sa := { s.sa with holder := .pump .p1 } }
    ((t.ch.get .p1).state, t.sa.holder) = (.running, .none) := by decide +kernel

/-- R63: a start that no feedback confirms locks out NO_START and posts point 2. -/
theorem test_no_start :
    let s := (autoIn .direct .p1 (powered 9000)).mapCh .p1 fun c => { c with fbDeadline := some 9000 }
    let t := after (.feedbackDeadline .p1) s
    ((t.ch.get .p1).state, (t.ch.get .p1).cause, (t.point 2).state) = (.lockedOut, .noStart, .activeUnack) := by
  decide +kernel

/-- R107: a travel that ends by its timer locks the rake and posts point 38. -/
theorem test_travel_timeout :
    let s := { powered 9000 with rc := { State.reset.rc with state := .lowering, travel := some 9000 } }
    let t := after .rakeTravelTimeout s
    (t.rc.state, t.rc.cause, (t.point 38).cond) = (.locked, .travel, true) := by decide +kernel

/-- R124: an acknowledgment of an active point. -/
theorem test_ack : ((after (.ackAlarm .town 1 45) (late 5)).point 45).state = .activeAck := by decide +kernel

/-- R127: after a reset the panel is first shown point 40, of priority 2, of three unseen. -/
theorem test_attention : ((payloadOf .panel (after (.readAttention .panel 1) (late 5))).map fun b => b.take 4) =
    some [3, 1, 40, 2] := by decide +kernel

/-! ### Requests -/

/-- R155: the identity starts with 4956, 57 and 406. -/
theorem test_identity : ((payloadOf .town (after (.readIdentity .town 9) (late 5))).map fun b => b.take 5) =
    some [0x49, 0x56, 0x57, 0x01, 0x96] := by decide +kernel

/-- R154: section 11 does not exist. -/
theorem test_status_out_of_range :
    refusalOf .panel (after (.readStatus .panel 1 11) (late 5)) = some (.outOfRange, some 11) := by decide +kernel

/-- Table 9-1: the panel may not release the log. -/
theorem test_release_on_panel :
    refusalOf .panel (after (.releaseLog .panel 1 5) (late 5)) = some (.notOnThisPort, none) := by decide +kernel

/-- R43: at reset no selector stands in AUTO. -/
theorem test_manual_selector :
    refusalOf .panel (after (.pumpManual .panel 1 5 .run 900) (late 5)) = some (.selectorNotAuto, some 5) := by
  decide +kernel

/-- R43: a lease of 2 s is applied as 10 s. -/
theorem test_manual_lease :
    payloadOf .panel (after (.pumpManual .panel 1 1 .stop 2) (withInputs [1] (powered 5))) = some [1, 1, 0, 10] := by
  decide +kernel

/-- R163: item 7 staged and read back beside its active value. -/
theorem test_edit :
    payloadOf .town (after (.editSetting .town 1 7 900) (late 5)) = some [0, 7, 0, 0, 3, 0x84, 0, 0, 3, 0x20, 1] := by
  decide +kernel

/-- R163: item 37 takes no value from 1 to 4. -/
theorem test_edit_interval :
    refusalOf .town (after (.editSetting .town 1 37 4) (late 5)) = some (.outOfRange, some 37) := by decide +kernel

/-- R164: a discard with nothing staged. -/
theorem test_discard_nothing :
    refusalOf .panel (after (.discardSettings .panel 1) (late 5)) = some (.nothingStaged, none) := by decide +kernel

/-- R165: a commit of one staged item. -/
theorem test_commit :
    let t := after (.commitSettings .town 2) (after (.editSetting .town 1 7 900) (late 5))
    (t.item 7, t.ss.store, t.ss.holder) = (900, .commit .town 1, none) := by decide +kernel

/-- R142: the clock set. -/
theorem test_set_clock :
    let t := after (.setClock .town 1 77) (late 5)
    (t.rl.clock, t.rl.clockValid, (t.point 45).state) = (77, true, .clearedUnack) := by decide +kernel

/-- R137: two records from the front. -/
theorem test_read_log :
    ((payloadOf .town (after (.readLog .town 1 2) (late 5))).map fun b => b.take 11) =
      some [0, 4, 0, 0, 0, 5, 0, 0, 0, 0, 2] := by decide +kernel

/-- R147: a reply read twice. -/
theorem test_reread :
    let s := after (.readReply .panel 20) (after (.rakeRequest .panel 3) (late 5))
    ((s.ports.get .panel).clockedOut.getD 14 0,
      ((after (.readReply .panel 20) s).ports.get .panel).clockedOut.getD 14 0) = (4, 6) := by decide +kernel

/-! ### Witnesses: the hypotheses of each statement can be met, clause by clause -/

/-- A quiet state some time after reset with one command waiting, for the invariants. -/
def waiting : State := { late 5 with pending := [.clockAdvance] }

theorem witness_StepTakesFront :
    waiting.pending = .clockAdvance :: [] ∧ (late 0).pending = [] ∧ (late 0).nextDue = none ∧
      (late 1000).nextDue = some .flowTick := by decide +kernel

theorem witness_CommandFrame : ∀ k, Instr.clockAdvance ≠ .reset k := by intro k; simp

theorem witness_GuardsApartKept : waiting.guardsApart ∧ ∃ t, step waiting = .next t := by
  refine ⟨?_, _, rfl⟩
  intro g
  cases g with
  | pump p => cases p <;> decide
  | rake => decide

theorem witness_SequenceHoldsKept :
    ({ autoIn .star .p2 waiting with sa := { waiting.sa with holder := .pump .p2 } } : State).sequenceHolds := by
  intro p
  cases p <;> decide

theorem witness_LogOrderedKept : waiting.rl.ordered ∧ ∃ t, step waiting = .next t := by
  refine ⟨?_, _, rfl⟩
  unfold Rl.ordered
  decide

theorem witness_LevelsSoundKept : waiting.levelsSound ∧ ∃ t, step waiting = .next t := by
  refine ⟨?_, _, rfl⟩
  intro c
  have h : ∀ x : Cal, (LevelChan.reset x).sound := by
    intro x
    simp [LevelChan.sound, LevelChan.reset]
  cases c <;> exact h _

/-- A QUEUED pump in the queue and a hand waiter. -/
def queued : State :=
  let s := (autoIn .queued .p1 waiting).mapCh .p2 fun c => { c with state := .queued, source := .hand }
  { s with sa := { s.sa with queue := [.p1], waiters := [.p2] } }

theorem witness_QueuesRightKept : queued.queuesRight ∧ ∃ t, step queued = .next t := by
  refine ⟨⟨by decide, by decide, ?_⟩, _, rfl⟩
  intro p
  cases p <;> decide

/-- A rake that does not wait, in a state whose queues are right. -/
theorem witness_FinishFrame : queued.rc.state ≠ .waitPermit ∧ queued.queuesRight :=
  ⟨by decide, witness_QueuesRightKept.1⟩

/-- A stagger at its end with an AUTO pump QUEUED and every pump under the source its selector gives. -/
def granting : State :=
  let s := withInputs [1, 6, 11, 16, 21, 26] (powered 10000)
  let s := (Pump.all.foldl (fun s p => autoIn .idle p s) s).mapCh .p1 fun c => { c with state := .queued, standing := true }
  { s with
    su := { s.su with roster := Pump.all, lf := 1, d := 1, target := [.p1], posted := s.su.posted.set .p1 .start }
    sa := { s.sa with queue := [.p1], staggerOn := true, lastRelease := some 0 }
    pending := [.staggerEnd] }

theorem witness_BeaconRightKept : waiting.beaconRight ∧ ∃ t, step waiting = .next t := by
  refine ⟨⟨by decide +kernel, ?_⟩, _, rfl⟩
  have h : ∀ i ∈ List.range 46, waiting.enabled (i + 1) = true := by decide +kernel
  intro n h1 h2 he
  have := h (n - 1) (by simp; omega)
  rw [Nat.sub_add_cancel h1, he] at this
  cases this

theorem witness_LinesRightKept : waiting.linesRight ∧ ∃ t, step waiting = .next t := by
  refine ⟨?_, _, rfl⟩
  intro p
  cases p <;> decide +kernel

theorem witness_SettingsRightKept : waiting.settingsRight ∧ ∃ t, step waiting = .next t := by
  refine ⟨?_, _, rfl⟩
  unfold State.settingsRight
  decide +kernel

/-- A state whose queues and posts are right, the posts with an AUTO pump of the roster in the target. -/
theorem witness_TargetRightKept :
    (queued.queuesRight ∧ ({ queued with sa := { queued.sa with limit := 0 } } : State).targetRight ∧
      (∀ k rest, queued.pending ≠ .reset k :: rest)) ∧
    (let s := { queued with su :=
        { queued.su with roster := [.p1], target := [.p1], posted := queued.su.posted.set .p1 .start } }
     s.queuesRight ∧ s.postsRight ∧ (∃ t, step s = .next t)) := by
  refine ⟨⟨witness_QueuesRightKept.1, ?_, ?_⟩, witness_QueuesRightKept.1, ?_, _, rfl⟩
  · unfold State.targetRight
    decide +kernel
  · intro k rest h
    simp [queued, waiting, autoIn, State.mapCh] at h
  · intro p h
    rw [List.mem_singleton] at h
    subst h
    refine ⟨by decide, by decide, ?_⟩
    intro e h
    cases h

/-- A state at all its limits' invariants, whose next command grants the permit: the step adds to both histories. -/
theorem witness_StartLimitsKept :
    let s := granting
    (s.queuesRight ∧ s.sourcesRight ∧ s.rosterRight ∧ s.offRests ∧ s.linesWithinLimit) ∧ ∃ t, step s = .next t ∧
      (t.sa.hist ≠ s.sa.hist ∧ t.sa.hist ≠ []) ∧
      (t.sa.pumpHist.get .p1 ≠ s.sa.pumpHist.get .p1 ∧ t.sa.pumpHist.get .p1 ≠ []) := by
  refine ⟨⟨⟨by decide, by decide, ?_⟩, ?_, ⟨by decide, ?_⟩, ?_, ?_⟩, _, rfl, by decide +kernel⟩
  all_goals first
    | (unfold State.linesWithinLimit; decide +kernel)
    | (intro p; cases p <;> decide +kernel)

theorem witness_ClaimsLiveKept :
    let s := linked .town { waiting with ss := { waiting.ss with holder := some .town, entries := [(7, 900)] } }
    s.entriesLive ∧ s.claimLive := by
  refine ⟨?_, rfl⟩
  intro p e h
  cases p <;> simp [linked, waiting, late, State.reset, State.mapPort, PerPump.const, PerPump.get] at h

theorem witness_BoundsKept : waiting.owedBound ∧ waiting.estimateBound ∧ waiting.pointsHeld := by
  refine ⟨by unfold State.owedBound; decide, ?_, by unfold State.pointsHeld; decide⟩
  intro i h
  simp [waiting, late, State.reset] at h

/-- The offers of Table 5-2: not free; a hand waiter; a forced rake; a queued pump; an unforced rake; none. The tests of
a start outside a session and, under AUTO, in one with its history. -/
theorem witness_GrantOrder :
    let s := powered 9000
    let w := { s with sa := { s.sa with waiters := [.p2] } }
    let r := fun f => { s with rc := { s.rc with state := .waitPermit, forced := f } }
    let q := autoIn .queued .p1 { s with sa := { s.sa with queue := [.p1] } }
    (late 5).permitFree = false ∧
    (w.permitFree = true ∧ w.lowMade = true ∧ w.sa.waiters = [.p2]) ∧
    ((r true).permitFree = true ∧ (r true).sa.waiters = [] ∧ (r true).rc.forced = true) ∧
    (q.permitFree = true ∧ q.sa.queue = [] ++ .p1 :: [] ∧ q.lowMade = true ∧ q.startAllowed .p1 = true ∧
      q.rc.state ≠ .waitPermit) ∧
    ((r false).permitFree = true ∧ (r false).sa.queue = [] ∧ (r false).sa.power ≠ .generator) ∧
    (s.permitFree = true ∧ s.sa.queue = [] ∧ s.rc.state ≠ .waitPermit) ∧
    (q.liu.sim = none ∧
      (let u := simulated 9 0 { q with sa := { q.sa with simHist := some ⟨[], PerPump.const []⟩ } }
       u.liu.sim ≠ none ∧ (u.ch.get .p1).source = .auto ∧ u.sa.simHist = some ⟨[], PerPump.const []⟩)) := by
  decide +kernel

/-- The grant to the rake: overload; a cycle with the bottom switch active and not; a homing with the top switch
active, with nothing owed and with a cycle owed, and not. -/
theorem witness_PermitGranted :
    let r := fun (purpose : Purpose) (owed : Nat) (l : List Nat) =>
      withInputs l { powered 9000 with rc := { State.reset.rc with state := .waitPermit, purpose := purpose, owed := owed } }
    (r .cycle 1 [33]).rakeOverload = true ∧
    ((r .cycle 1 []).rakeOverload = false ∧ (r .cycle 1 []).rc.purpose = .cycle ∧ (r .cycle 1 []).rakeBottom = false ∧
      (r .cycle 1 [32]).rakeBottom = true ∧ (r .cycle 1 [32]).rakeOverload = false) ∧
    ((r .home 0 [31]).rc.purpose = .home ∧ (r .home 0 [31]).rakeTop = true ∧ (r .home 0 [31]).rakeOverload = false ∧
      0 < (r .home 1 [31]).rc.owed ∧ (r .home 0 []).rakeTop = false) := by decide +kernel

/-- An append below the LOG_FULL count, to a full log with a class B record and with none, bringing LOG_FULL, and
after the last sequence number; a disabled point at both ends of the range of those that may be; both ends of the point
range, and each row of R123's table. -/
theorem witness_PostMovesPoint :
    let s := late 5
    let rec_ : Nat → Bool → LogRec := fun n a => ⟨n, a, none, 0, .alarmAck 1 .panel⟩
    let log := fun (l : List LogRec) (f : Bool) => { s with rl := { s.rl with log := l, full := f } }
    let two := log (rec_ 1 true :: rec_ 2 false :: List.replicate 510 (rec_ 3 false)) true
    let all := log (rec_ 1 true :: List.replicate 511 (rec_ 2 true)) true
    let wraps := fun f => { s with rl := { s.rl with nextSeq := 0, full := f } }
    let off := fun (k : Nat) => { s with ss := { s.ss with active := s.ss.active.set (k - 1) 1 } }
    (s.rl.nextSeq ≠ 0 ∧ s.rl.log.length < 479 ∧ (two.rl.full = true ∧ two.rl.log.length = 512 ∧ two.rl.nextSeq ≠ 0) ∧
      two.rl.log = [rec_ 1 true] ++ rec_ 2 false :: List.replicate 510 (rec_ 3 false) ∧
      (all.rl.full = true ∧ all.rl.log.length = 512 ∧ ∀ z ∈ all.rl.log, z.classA = true)) ∧
    ((log (List.replicate 479 (rec_ 1 true)) false).rl.full = false ∧
      479 ≤ (log (List.replicate 479 (rec_ 1 true)) false).rl.log.length ∧
      (log (List.replicate 510 (rec_ 1 true)) false).rl.log.length < 511 ∧ s.rl.nextSeq ≠ 4294967295) ∧
    ((wraps false).rl.nextSeq = 0 ∧ (wraps false).rl.full = false ∧ (wraps true).rl.full = true ∧
      (wraps true).alarms.points.length = 46) ∧
    ((off 188).enabled 5 = false ∧ (off 229).enabled 46 = false ∧ (off 188).alarms.points.length = 46) ∧
    (s.alarms.points.length = 46 ∧ s.enabled 1 = true ∧ s.enabled 46 = true ∧ s.rl.full = false ∧ s.rl.log.length < 479) ∧
    ((s.point 1).cond = false ∧ (s.point 1).state = .normal) ∧
    (((alarmIn 46 .clearedUnack false s).point 46).state = .clearedUnack ∧
      ((alarmIn 46 .activeUnack false s).point 46).cond = false ∧
      ((alarmIn 46 .activeAck false s).point 46).state = .activeAck) ∧
    ((s.point 45).state = .activeUnack ∧ (s.point 45).cond = true) ∧
    (((alarmIn 46 .activeAck true s).point 46).cond = true ∧ ((alarmIn 46 .normal true s).point 46).cond = true ∧
      ((alarmIn 46 .clearedUnack true s).point 46).state = .clearedUnack) := by decide +kernel

/-- A reset with the marker set and clear; a valid clock 5 ms before its advance, with the part away 2100 ms, and one
that passes its greatest value; an event to interrupt; a log with room, and one held at 512. -/
theorem witness_ResetStarts :
    let s := fun n => { late 1000 with rl := { State.reset.rl with clock := n, clockValid := true, nextAdvance := some 1005 } }
    let full := { late 9 with rl := { State.reset.rl with log := List.replicate 512 ⟨1, true, none, 0, .restart .cold .power⟩ } }
    (blank.ss.marker = false ∧ (late 9).ss.marker = true ∧ (late 9).rl.clockValid = false) ∧
    ((s 7).ss.marker = true ∧ (s 7).rl.clockValid = true ∧ (s 7).rl.nextAdvance = some 1005 ∧
      (∀ i, i < 3 ↔ 1005 + 1000 * i < (s 7).uptime + 2100) ∧ (s 7).rl.clock + 3 ≤ 4294967295 ∧
      4294967295 < (s 4294967295).rl.clock + 3) ∧
    ((late 9).rl.nextSeq ≠ 0 ∧ (late 9).rl.nextSeq < 4294967000 ∧ (late 9).rl.log.length < 460 ∧
      full.rl.log.length ≤ 512 ∧ full.ss.marker = true) := by
  refine ⟨by decide, ⟨rfl, rfl, rfl, ?_, by decide, by decide⟩, by decide +kernel⟩
  intro i
  simp only [late]
  omega

/-- The factory volume table with its first segment, its last point and two readings. -/
theorem witness_InterpolationRule :
    let tab := [(0, 0), (1000, 40000), (2000, 90000)]
    tab.Pairwise (fun a b => a.1 < b.1 ∧ a.2 ≤ b.2) ∧ tab = [] ++ (0, 0) :: (1000, 40000) :: [(2000, 90000)] ∧
      tab = [(0, 0), (1000, 40000)] ++ [(2000, 90000)] := by decide

/-- Each state of a channel under AUTO and MANUAL, with the LOW float made and not, a minimum run that has run and one
that has not, gated or not; an AUTO pump in the target and out of it, posted START and not, and outgoing; an entry that
orders it to run and to stop. -/
theorem witness_RequestsTaken :
    (∀ st : ChState, ((autoIn st .p1 (late 5)).ch.get .p1).staged = true ∧
      ((autoIn st .p1 (late 5)).ch.get .p1).state = st) ∧
    ((powered 5).lowMade = true ∧ (late 5).lowMade = false ∧ (powered 5).sa.power ≠ .dead ∧
      ((autoIn .idle .p1 (powered 5)).ch.get .p1).rest = none) ∧
    (let c := fun u => (autoIn .running .p1 (powered u)).mapCh .p1 fun c => { c with runningSince := 0 }
     ((c 60000).ch.get .p1).runningSince = 0 ∧ 0 + ((c 60000).ch.get .p1).force.minRun * 1000 ≤ 60000 ∧
      ¬(0 + ((c 59999).ch.get .p1).force.minRun * 1000 ≤ 59999) ∧ ((c 60000).ch.get .p1).gated = false ∧
      (withInputs [2] (c 60000)).input (pumpInput .p1 2) = true ∧ (c 60000).input (pumpInput .p1 2) = false) ∧
    (let s := fun l h r => { autoIn .idle .p1 (powered 5) with
        su := { State.reset.su with target := l, handover := h, posted := State.reset.su.posted.set .p1 r } }
     ((s [.p1] none .none).su.posted.get .p1 ≠ .start ∧ .p1 ∈ (s [.p1] none .none).su.target) ∧
      ((s [] none .start).su.posted.get .p1 = .start ∧ .p1 ∉ (s [] none .start).su.target ∧
        (s [] none .start).su.handover = none) ∧
      (s [] (some ⟨[.p1], [], 0⟩) .start).su.handover = some ⟨[.p1], [], 0⟩) ∧
    (∀ a ∈ [Action.run, .stop],
      let m := { (powered 5).mapCh .p1 (fun c => { c with state := .idle, source := .manual }) with
        su := { State.reset.su with entry := State.reset.su.entry.set .p1 (some ⟨.town, a, 900, 0⟩) } }
      (m.ch.get .p1).source = .manual ∧ m.su.entry.get .p1 = some ⟨.town, a, 900, 0⟩ ∧
        m.su.posted.get .p1 ≠ .start ∧ m.su.posted.get .p1 ≠ .stopNow ∧ m.lowMade = true ∧
        (m.ch.get .p1).state ≠ .lockedOut ∧ (m.ch.get .p1).rest = none) := by
  refine ⟨?_, by decide +kernel, by decide +kernel, by decide +kernel, by decide +kernel⟩
  intro st
  cases st <;> decide

/-- The ends of the good range and their neighbours, and the runs at their turn; a sample due, with a good reading
outside a session, and in one at its bound. -/
theorem witness_SamplesTaken :
    let s := wellAt 3000 (late 250)
    let top := simulated 5 0 (wellAt 2500 (late 250))
    ((580 ≤ (580#12).toNat ∧ (3890#12).toNat ≤ 3890 ∧ (579#12).toNat < 580 ∧ 3890 < (3891#12).toNat) ∧
      (8 ≤ 7 + 1 ∧ 6 + 1 < 8)) ∧
    (s.liu.nextSample.get .well ≤ s.uptime ∧ s.liu.nextSample.get .inlet ≤ s.uptime ∧
      (s.liu.chan.well.sample 580#12).2 = true ∧ s.liu.sim = none) ∧
    ((top.liu.chan.well.sample 1366#12).2 = true ∧ (top.liu.chan.well.sample 1366#12).1.level = some 2500 ∧
      top.item 11 = 2500 ∧ top.liu.sim ≠ none ∧ top.rl.nextSeq ≠ 0 ∧ top.rl.nextSeq < 4294967000 ∧
      top.rl.log.length < 470) ∧
    (let f := { s with
       liu := { s.liu with chan.well := { s.liu.chan.well with state := .suspect, faultRun := 7 } }
       su := { s.su with fallback := false } }
     ((s.liu.chan.well.sample 579#12).1.state = .suspect ∧ s.well.state = .good ∧
       (s.liu.chan.well.sample 579#12).2 = false ∧ s.pointsHeld) ∧
     ((f.liu.chan.well.sample 579#12).1.state = .failed ∧ f.well.state = .suspect ∧ f.su.fallback = false ∧
       f.rl.nextSeq ≠ 0 ∧ f.rl.nextSeq < 4294967000 ∧ f.rl.log.length < 470)) := by
  unfold State.pointsHeld
  decide +kernel

/-- Input 35 at its 100 ms, input 36 at and just before its 2 s, and an input that agrees. -/
theorem witness_InputsDebounced :
    let s := after (.rawInputChange 36 true) (after (.rawInputChange 35 true) (late 0))
    let t := fun u => { s with uptime := u }
    (s.liu.raw.getLsbD 35 ≠ s.liu.deb.getLsbD 35 ∧ s.liu.rawSince.getD 35 0 + 100 ≤ (t 100).uptime) ∧
    (s.liu.raw.getLsbD 36 ≠ s.liu.deb.getLsbD 36 ∧ s.liu.rawSince.getD 36 0 + 2000 ≤ (t 2000).uptime) ∧
    (t 1999).uptime < s.liu.rawSince.getD 36 0 + 2000 ∧ s.liu.raw.getLsbD 0 = s.liu.deb.getLsbD 0 := by decide +kernel

/-- Received: outside fallback; in fallback with each condition true; in fallback with neither, recorded and not.
Sampled: a WELL and an INLET sample due. The timer's end with the condition false and true. The differential: asking
at PARKED, below the thresholds, and invalid. -/
theorem witness_LevelsAct :
    let out := { late 9 with su := { State.reset.su with fallback := false } }
    let g := wellAt 3000 (late 9)
    let e := fun b => { late 7 with liu := { State.reset.liu with disTimer := some 7, levelDisagree := b } }
    let d := fun v => { late 9 with
      liu := { State.reset.liu with diff := v }, rc := { State.reset.rc with state := .parked, armed := true } }
    (out.su.fallback = false ∧ ((late 9).su.fallback = true ∧ (late 9).well.state = .init) ∧
      (g.su.fallback = true ∧ g.well.state = .good ∧ g.liu.levelDisagree = false ∧ g.su.quietFallback = true) ∧
      ({ g with su := { g.su with quietFallback := false } } : State).su.quietFallback = false ∧ g.rl.nextSeq ≠ 0 ∧
      g.rl.log.length < 479) ∧
    ((late 250).liu.nextSample.get .well ≤ 250 ∧ (late 250).liu.nextSample.get .inlet ≤ 250) ∧
    ((e false).liu.disTimer = some 7 ∧ 7 ≤ (e false).uptime ∧ (e false).liu.levelDisagree = false ∧
      (e true).liu.levelDisagree = true ∧ (e true).alarms.points.length = 46) ∧
    ((d none).rc.owed ≤ 8 ∧ (d (some 300)).item 35 ≤ 300 ∧ (d (some 300)).rc.armed = true ∧
      (d (some 300)).rc.state = .parked ∧ (d (some 300)).rc.owed < 8 ∧ 0 < (d (some 0)).item 43 ∧
      (d (some 2000)).item 43 ≤ 2000 ∧ (d none).liu.diff = none) := by decide +kernel

/-- A raw input that differs from the debounced one and has been held, from uptime 0. -/
def changing (k : Fin 40) (v : Bool) (s : State) : State :=
  { s with
    liu :=
      { s.liu with
        raw := putBit s.liu.raw k v
        deb := putBit s.liu.deb k !v
        rawSince := s.liu.rawSince.set k 0 } }

/-- Every input held for its interval; each state and source of a channel; and the cases of each input. -/
theorem witness_InputChangesAct :
    let s := powered 9000
    let held := fun (u : State) (k : Fin 40) =>
      u.liu.raw.getLsbD k ≠ u.liu.deb.getLsbD k ∧ u.liu.rawSince.getD k 0 + (if k.val < 36 then 100 else 2000) ≤ u.uptime
    let c := fun st src => s.mapCh .p1 fun c => { c with state := st, source := src }
    (∀ k : Fin 40, held (changing k true s) k ∧ held (changing k false s) k) ∧
    (s.present .p1 = true ∧ s.pointsHeld ∧ ((c .running .auto).ch.get .p1).cause ≠ .trip ∧
      ((c .running .auto).ch.get .p1).gated = false ∧ ((c .running .auto).ch.get .p1).fbDeadline = none) ∧
    (∀ st ∈ [ChState.unavailable, .idle, .queued, .direct, .star, .changeover, .running, .stopping, .lockedOut],
      ∀ src ∈ [Source.off, .hand, .auto, .manual],
        ((c st src).ch.get .p1).state = st ∧ ((c st src).ch.get .p1).source = src) ∧
    (((changing 0 true (c .running .auto)).takeInput 0).derivedSource .p1 = .hand ∧
      ((changing 1 false (c .running .auto)).takeInput 1).derivedSource .p1 = .off ∧
      ((changing 1 true (c .running .hand)).takeInput 1).derivedSource .p1 = .auto) ∧
    (let w := fun l => { wellAt l (changing 37 true s) with liu := { (wellAt l (changing 37 true s)).liu with
        disTimer := some 9 } }
     ∀ l ∈ [0, 20000], (w l).well.state = .good ∧ (w l).well.level = some l ∧ (w l).liu.levelDisagree = false) ∧
    ((changing 37 true (simulated 5 9 s)).liu.sim ≠ none ∧ s.rl.nextSeq ≠ 0 ∧ s.rl.nextSeq < 4294967000 ∧
      s.rl.log.length < 470) := by
  unfold State.pointsHeld
  decide +kernel

/-- The rake inputs, active and not, over every state of the rake. -/
theorem witness_InputChangesAct_rake :
    ∀ st ∈ [RakeState.off, .parked, .waitPermit, .lowering, .raising, .jamBackoff, .discharge, .homing, .locked],
      ∀ k ∈ [(30 : Fin 40), 31, 32, 33], ∀ v : Bool,
        let s := changing k v ({ powered 9000 with rc := { State.reset.rc with state := st } } : State)
        s.rc.state = st ∧ s.liu.raw.getLsbD k ≠ s.liu.deb.getLsbD k ∧ s.liu.rawSince.getD k 0 + 100 ≤ s.uptime ∧
          (s.takeInput k).input k = v ∧ s.item 41 ≠ 0 := by decide +kernel

/-- A tick within the interval, and the last of it. -/
theorem witness_FlowTickAdds :
    let s := { late 9000 with be := { State.reset.be with ticks := 9 } }
    (late 1000).be.nextFlow ≤ (late 1000).uptime ∧ (late 1000).be.ticks + 1 < (late 1000).be.t ∧
      s.be.nextFlow ≤ s.uptime ∧ s.be.t ≤ s.be.ticks + 1 := by decide

theorem witness_BalanceTickCloses :
    let s := { late 9000 with be := { State.reset.be with ticks := 9 } }
    s.be.nextFlow ≤ s.uptime ∧ s.be.t ≤ s.be.ticks + 1 := by decide

theorem witness_SummaryCloses :
    (({ late 9 with be := { State.reset.be with boundaryDue := true } } : State).be.boundaryDue = true) ∧
    ((late 900000).rl.clockValid = false ∧
      (late 900000).be.sum.startUp + (late 900000).item 51 * 60000 ≤ (late 900000).uptime ∧
      (late 900000).rl.nextSeq ≠ 0 ∧ (late 900000).rl.log.length < 479) := by decide +kernel

theorem witness_ClockAdvances :
    let s := fun n => { late 1005 with
      rl := { State.reset.rl with clock := n, clockValid := true, nextAdvance := some 1005 } }
    ((s 0).rl.clockValid = true ∧ (s 0).rl.nextAdvance = some 1005 ∧ 1005 ≤ (s 0).uptime) ∧
      (s 4294967294).rl.clock ≠ 4294967295 ∧ (s 4294967295).rl.clock = 4294967295 ∧
      (s 0).alarms.points.length = 46 := by decide

/-- An open event. -/
def opened (n : Nat) : Event :=
  { num := n, startUp := 0, startTime := none, openLevel := none, peak := none, spill := 0, unmeasured := 0
    elapsed := 0, lastTime := none }

/-- Each state of the monitor with its condition true and false; each timer at its end; an update due. -/
theorem witness_OverflowEventsRun :
    let m := fun (st : OmState) (weir : Bool) =>
      withInputs (if weir then [39] else []) { late 9 with om := { State.reset.om with state := st } }
    let o := { late 9 with om := { State.reset.om with state := .opening, openTimer := some 9 } }
    let c := { late 9 with om := { State.reset.om with state := .closing, closeTimer := some 9, event := some (opened 1) } }
    let u := { late 1000 with om := { State.reset.om with event := some (opened 1) } }
    (∀ st ∈ [OmState.quiet, .opening, .opened, .closing], ∀ weir : Bool,
      (m st weir).om.state = st ∧ (m st weir).well.state = .init ∧ (m st weir).weirMade = weir) ∧
    (o.om.state = .opening ∧ o.om.openTimer = some 9 ∧ o.alarms.points.length = 46 ∧ o.rl.full = false ∧
      o.enabled 33 = true ∧ (o.point 33).cond = false ∧ (o.point 33).state = .normal) ∧
    (c.om.state = .closing ∧ c.om.closeTimer = some 9 ∧ c.om.event.isSome = true ∧ c.rl.nextSeq ≠ 0 ∧
      c.rl.nextSeq ≠ 4294967295 ∧ c.rl.log.length < 478) ∧
    (u.om.event = some (opened 1) ∧ u.om.nextUpdate ≤ u.uptime) := by decide +kernel

theorem witness_FallbackEntered :
    let out := { late 9 with su := { State.reset.su with fallback := false, quietFallback := false } }
    (out.su.fallback = false ∧ out.su.handover = none ∧ out.rl.nextSeq ≠ 0 ∧ out.rl.log.length < 479) ∧
      ((late 9).su.fallback = true ∧ (late 9).su.quietFallback = true) ∧
      ({ late 9 with su := { State.reset.su with quietFallback := false } } : State).su.quietFallback = false := by decide

/-- No change; a loss of the mains with a running pump and a LOCKED_OUT one, the rake in each state; a return with a
hold; a limit lowered by the generator; a MANUAL pump to shed. -/
theorem witness_PowerSourceChanges :
    let lost := fun (st : RakeState) =>
      ((autoIn .running .p1 (late 9)).mapCh .p2 fun c => { c with state := .lockedOut }).mapRc fun r =>
        { r with state := st }
    let l := fun st => { lost st with sa := { State.reset.sa with power := .mains, limit := 3 } }
    let back := withInputs [34] (late 9)
    let low := withInputs [35] { late 9 with sa := { State.reset.sa with power := .mains, limit := 3 } }
    let man := { (late 9).mapCh .p3 (fun c => { c with state := .running, source := .manual }) with
      su := { State.reset.su with entry := State.reset.su.entry.set .p3 (some ⟨.town, .run, 900, 4⟩) } }
    (late 9).derivedPower = (late 9).sa.power ∧
    (∀ st ∈ [RakeState.off, .parked, .waitPermit, .lowering, .raising, .jamBackoff, .discharge, .homing, .locked],
      (l st).input 34 = false ∧ (l st).input 35 = false ∧ (l st).sa.power ≠ .dead ∧ (l st).rc.state = st ∧
        ((l st).ch.get .p1).state ≠ .lockedOut ∧ ((l st).ch.get .p2).state = .lockedOut ∧ (l st).su.handover = none ∧
        (l st).alarms.points.length = 46 ∧ (l st).rl.full = false ∧ (l st).rl.nextSeq ≠ 0 ∧
        (l st).rl.nextSeq ≠ 4294967295 ∧ (l st).rl.log.length < 478) ∧
    (back.input 34 = true ∧ back.sa.power = .dead ∧ back.item 34 ≠ 0) ∧
    (let kept := back.mapCh .p2 fun c => { c with state := .idle, source := .auto, standing := true }
     let both := { (withInputs [34, 36] kept).mapCh .p1 (fun c => { c with state := .idle, source := .hand }) with
       sa := { State.reset.sa with power := .dead, limit := 0 } }
     let none' := { both with ss := { both.ss with active := both.ss.active.set 33 0 } }
     both.input 34 = true ∧ both.sa.power = .dead ∧ both.sa.limit ≤ both.item 27 ∧ both.su.handover = none ∧
       both.lowMade = true ∧ both.item 34 ≠ 0 ∧ none'.item 34 = 0 ∧ (both.ch.get .p2).standing = true ∧
       both.changePower.sa.queue = [.p2] ∧ both.changePower.sa.waiters = [.p1] ∧
       none'.changePower.sa.hold = none ∧ none'.changePower.work.offer = true) ∧
    (low.derivedPower = .generator ∧ low.sa.power = .mains ∧ low.item 28 < low.sa.limit ∧ low.su.handover = none) ∧
    (∀ p, p ∈ [Pump.p3] ↔ (man.ch.get p).source = .manual ∧ (man.ch.get p).asksLine = true ∧
      (man.ch.get p).gated = false) ∧ [Pump.p3].Pairwise (fun _ _ => False) := by
  refine ⟨by decide +kernel, by decide +kernel, by decide +kernel, by decide +kernel, by decide +kernel, ?_, by decide⟩
  intro p
  cases p <;> decide +kernel

/-- An entry at its end; a duty hold at its end below the limit and at it; a handover at its end. -/
theorem witness_StagingTimersEnd :
    let x := { late 9 with su := { State.reset.su with entry := State.reset.su.entry.set .p6 (some ⟨.town, .run, 9, 0⟩) } }
    let s := { powered 14400000 with su := { State.reset.su with dutyStart := some 0 } }
    let h := { late 120000 with su := { State.reset.su with handover := some ⟨[.p1], [.p2], 0⟩ } }
    (x.su.entry.get .p6 = some ⟨.town, .run, 9, 0⟩ ∧ 9 ≤ x.uptime) ∧
    (s.su.dutyStart = some 0 ∧ s.item 26 ≠ 0 ∧ 0 + s.item 26 * 3600000 ≤ s.uptime ∧ s.su.d < s.sa.limit) ∧
    ({ s with su := { s.su with d := 3 } } : State).sa.limit ≤ 3 ∧
    (h.su.handover = some ⟨[.p1], [.p2], 0⟩ ∧ 0 + 120000 ≤ h.uptime ∧ h.su.deferredRot = false) := by decide +kernel

/-- A run-up at its end with and without a stop at once; STAR with its timer at its end and the guard granting DELTA
and holding it; a held STAR, a held DELTA and a held DOWN whose dead time has just run; a pair free, not free, active
and holding. -/
theorem witness_StartSequenceTimers :
    let s := fun d m => (autoIn .direct .p1 (powered 900)).mapCh .p1 fun c =>
      { c with seqTimer := some 900, deferred := d, force := { c.force with minRun := m } }
    let star := fun (x : Pair) =>
      ((autoIn .star .p1 (powered 900)).mapCh .p1 fun c => { c with seqTimer := some 900 }).setPair (.pump .p1) x
    let held := fun (st : ChState) (k : Member) (x : Pair) =>
      (autoIn st .p1 (powered 900)).setPair (.pump .p1) { x with held := some k }
    let a := held .star .first ⟨false, false, none, some 800, none⟩
    let b := held .changeover .second ⟨false, false, some 800, none, none⟩
    let r := ({ powered 900 with rc := { State.reset.rc with state := .lowering, firstPending := true } } : State).setPair
      .rake ⟨false, false, some 750, none, some .second⟩
    (((s true 60).ch.get .p1).state = .direct ∧ ((s true 60).ch.get .p1).seqTimer = some 900 ∧
      900 ≤ (s true 60).uptime ∧ ((s true 60).ch.get .p1).force.minRun ≠ 0 ∧
      ((s true 0).ch.get .p1).deferred = true ∧ ((s true 0).ch.get .p1).force.minRun = 0) ∧
    (((star ⟨true, false, none, none, none⟩).ch.get .p1).state = .star ∧
      ((star ⟨true, false, none, none, none⟩).ch.get .p1).seqTimer = some 900 ∧
      (((⟨true, false, none, none, none⟩ : Pair).release 900 .first).request 900 (powered 900 |>.item 30) .second).secondOn
        = false ∧
      (((⟨false, false, none, none, none⟩ : Pair).release 900 .first).request 900 (powered 900 |>.item 30) .second).secondOn
        = true) ∧
    ((a.pair (.pump .p1)).held = some .first ∧ (a.pair (.pump .p1)).on (Member.first.other) = false ∧
      800 + a.deadTime (.pump .p1) ≤ a.uptime) ∧
    ((b.pair (.pump .p1)).held = some .second ∧ (b.pair (.pump .p1)).on (Member.second.other) = false ∧
      800 + b.deadTime (.pump .p1) ≤ b.uptime) ∧
    ((r.pair .rake).held = some .second ∧ (r.pair .rake).on (Member.second.other) = false ∧
      750 + r.deadTime .rake ≤ r.uptime ∧ r.rc.state = .lowering) ∧
    ((⟨true, false, none, some 5, none⟩ : Pair).on .first = true ∧
      (⟨false, false, none, some 5, some .second⟩ : Pair).held ≠ some .first ∧ 5 + 40 ≤ 45 ∧ ¬(5 + 40 ≤ 44)) := by
  decide +kernel

theorem witness_MinRunEnds :
    let s := (withInputs [2] (autoIn .running .p1 (powered 60000))).mapCh .p1 fun c =>
      { c with deferred := true, runningSince := 0 }
    (s.ch.get .p1).state = .running ∧ (s.ch.get .p1).deferred = true ∧ (s.ch.get .p1).runningSince = 0 ∧
      0 + (s.ch.get .p1).force.minRun * 1000 ≤ s.uptime ∧ (s.ch.get .p1).gated = false ∧
      s.input (pumpInput .p1 2) = true := by decide +kernel

theorem witness_DeadlineLocksOut :
    let s := (autoIn .direct .p6 (powered 9)).mapCh .p6 fun c => { c with fbDeadline := some 9 }
    (s.ch.get .p6).fbDeadline = some 9 ∧ 9 ≤ s.uptime ∧ s.alarms.points.length = 46 := by decide

theorem witness_RestEnds :
    let s := (autoIn .idle .p1 (powered 9)).mapCh .p1 fun c => { c with rest := some 9, standing := true }
    (s.ch.get .p1).state = .idle ∧ (s.ch.get .p1).rest = some 9 ∧ 9 ≤ s.uptime ∧ s.sa.power ≠ .dead ∧
      s.lowMade = true := by decide

theorem witness_ArbiterTimersEnd :
    let s := powered 900000
    let hold := { s with sa := { s.sa with hold := some 900000 } }
    let stag := { s with sa := { s.sa with staggerOn := true, lastRelease := some 890000 } }
    let win := { s with sa := { s.sa with hist := [(0, .p1)], windowMark := 899999 } }
    let rake := { s with sa := { s.sa with holder := .rake, rakeInrush := some 900000 } }
    hold.sa.hold = some 900000 ∧
    (stag.sa.staggerOn = true ∧ 890000 + stag.item 31 * 1000 ≤ stag.uptime) ∧
    ((0, Pump.p1) ∈ win.sa.hist ∧ win.sa.windowMark < 0 + win.item 33 * 1000 ∧ 0 + win.item 33 * 1000 ≤ win.uptime) ∧
    (rake.sa.rakeInrush = some 900000 ∧ rake.sa.holder = .rake) := by decide +kernel

/-- A travel at its end in LOWERING, RAISING and HOMING; a backoff with retries left, with none, and with DOWN
active. -/
theorem witness_RakeTimersEnd :
    let t := fun st => { powered 9 with rc := { State.reset.rc with state := st, travel := some 9 } }
    let b := fun n => ({ powered 9 with
      rc := { State.reset.rc with state := .jamBackoff, backoff := some 9, retry := n } } : State).setPair .rake
        ⟨false, true, none, none, none⟩
    ((t .lowering).rc.travel = some 9 ∧ (t .raising).rc.state = .raising ∧ (t .homing).rc.state = .homing) ∧
    ((b 2).rc.state = .jamBackoff ∧ (b 2).rc.retry + 1 ≤ (b 2).item 42 ∧ (b 2).rakeOverload = false ∧
      (b 2).rakeDown = true ∧ (b 2).rakeUp = false ∧ 0 < (b 2).item 44) ∧
    (b 3).item 42 < (b 3).rc.retry + 1 := by decide +kernel

/-- A discharge at its end with one cycle owed and with two, an interval at its end, a blinding at its end. -/
theorem witness_RakeCyclesCounted :
    let d := fun n => { powered 9 with rc := { State.reset.rc with state := .discharge, discharge := some 9, owed := n } }
    let i := { powered 9 with rc := { State.reset.rc with interval := some 9, owed := 8 } }
    let b := { powered 9 with rc := { State.reset.rc with blindTimer := some 9 } }
    ((d 1).rc.state = .discharge ∧ (d 1).rc.discharge = some 9 ∧ (d 2).rc.owed - 1 = 1 ∧ (d 2).liu.diff = none) ∧
    (i.rc.owed ≤ 8 ∧ i.rc.interval = some 9) ∧
    (let q := { i with rc := { i.rc with state := .parked, owed := 7 } }
     q.rc.owed < 8 ∧ q.rc.state = .parked ∧ q.rc.interval = some 9 ∧ q.item 37 ≠ 0) ∧ (b.rc.blindTimer = some 9 ∧ b.alarms.points.length = 46) := by decide

/-- A session at its limit; each condition of SIM_ENTER met, and each failing in turn. -/
theorem witness_SimulationSessions :
    let s := simulated 1000 0 (powered 1800000)
    let e := wellAt 1000 (powered 9)
    let busy := autoIn .running .p1 e
    let wet := { e with om := { e.om with event := some (opened 1) } }
    let high := withInputs [37] e
    (s.liu.sim = some ⟨1000, 1000, 0⟩ ∧ 0 + 1800000 ≤ s.uptime ∧ s.alarms.points.length = 46) ∧
    (s.rl.nextSeq ≠ 0 ∧ (s.hear .panel).rl.nextSeq ≠ 0 ∧ (s.hear .panel).rl.nextSeq < 4294967000 ∧
      (s.hear .panel).rl.log.length < 470) ∧
    (e.liu.sim = none ∧ e.well.state = .good ∧ e.well.level = some 1000 ∧ 1000 < e.item 17 ∧ e.autoLines = 0 ∧
      e.om.event = none ∧ e.highMade = false) ∧
    (powered 9).well.state ≠ .good ∧ ¬(9000 < (wellAt 9000 (powered 9)).item 17) ∧
    (busy.well.level = some 1000 ∧ busy.autoLines ≠ 0) ∧ (wet.autoLines = 0 ∧ wet.om.event.isSome = true) ∧
    (high.om.event = none ∧ high.highMade = true ∧ high.autoLines = 0 ∧ high.liu.sim = none) := by decide +kernel

theorem witness_LinkFallsSilent :
    let s := { late 30000 with ss := { State.reset.ss with holder := some .panel } }
    ((simulated 5 9 s).liu.sim ≠ none ∧ s.rl.nextSeq ≠ 0 ∧ s.rl.nextSeq < 4294967000 ∧ s.rl.log.length < 450) ∧
    (s.ports.get .panel).link ≠ .silent ∧ (s.ports.get .panel).linkTimer = some 30000 ∧ 30000 ≤ s.uptime ∧
      ((late 120000).ports.get .town).linkTimer = some 120000 ∧ s.alarms.points.length = 46 := by decide

/-- An image written and one being written; a write in progress; a snapshot due. -/
theorem witness_StoreWrites :
    let s := { late 14400000 with ss := { State.reset.ss with store := .commit .town 3 } }
    let x : Image :=
      { items := factoryDefaults, wear := State.reset.ss.image.wear, version := Config.imageVersion, check := none }
    (x.check = none ∧ (x.completed .written).version = Config.imageVersion ∧
      settingsSound (x.completed .written).items = true) ∧
    (s.ss.store ≠ .idle ∧ s.ss.store = .commit .town 3 ∧ s.rl.nextSeq ≠ 0 ∧ s.rl.nextSeq ≠ 4294967295 ∧
      s.rl.log.length < 478 ∧ s.alarms.points.length = 46) ∧ s.ss.nextSnapshot ≤ s.uptime := by
  refine ⟨⟨rfl, rfl, ?_⟩, by decide, by decide⟩
  have h : settingsSound factoryDefaults = true := by decide +kernel
  exact h

/-- A short frame, a frame after a direction byte that is no code, and an unknown request. -/
theorem witness_PortTransactions :
    classifyFrame .panel [0x05, 0x01] = .malformed none ∧
    ((0x33 : Byte) ≠ 0x5A ∧ (0x33 : Byte) ≠ 0xA5 ∧ tagCodeOf [5, 1, 2] = some (1, 2)) ∧
    paramLength (0x7F : Byte).toNat = none := by decide

/-- An open request and two barred ones; a link that is SILENT and one that is not. -/
theorem witness_RequestReply :
    (((late 5).mapPort .town fun c => { c with link := .silent }).ports.get .town).link = .silent ∧
    ((late 5).ports.get .panel).link ≠ .silent ∧ (late 5).alarms.points.length = 46 ∧
    requestBody (.readLog .panel 1 8) = some (.panel, 1, 0x50, [8]) ∧
    requestBody (.setClock .panel 1 5) = some (.panel, 1, 0x53, [0, 0, 0, 5]) ∧
    requestBody (.resetScreen .town 1) = some (.town, 1, 0x31, []) := by decide

/-- Sections 1, 10, 0 and 11; thresholds 1, 3, 0 and 4. -/
theorem witness_PortRequests :
    (1 ≤ (1 : Byte).toNat ∧ (10 : Byte).toNat ≤ 10 ∧ (0 : Byte).toNat = 0 ∧ 10 < (11 : Byte).toNat) ∧
    (1 ≤ (1 : Byte).toNat ∧ (3 : Byte).toNat ≤ 3 ∧ 3 < (4 : Byte).toNat) := by decide

/-- Pump 1 in AUTO; pump numbers 0 and 7; a selector in OFF; a LOCKED_OUT pump asked to run. -/
theorem witness_ManualOrders :
    let s := withInputs [1] (powered 9)
    let l := s.mapCh .p1 fun c => { c with state := .lockedOut }
    ((1 : Byte).toNat = Pump.p1.num ∧ s.present .p1 = true ∧ s.input (pumpInput .p1 1) = true ∧
      s.input (pumpInput .p1 0) = false ∧ (s.ch.get .p1).state ≠ .lockedOut) ∧
    (∀ q : Pump, (0 : Byte).toNat ≠ q.num) ∧ (∀ q : Pump, (7 : Byte).toNat ≠ q.num) ∧
    ((6 : Byte).toNat = Pump.p6.num ∧ s.input (pumpInput .p6 1) = false) ∧
    ((l.ch.get .p1).state = .lockedOut ∧ l.input (pumpInput .p1 1) = true ∧ l.input (pumpInput .p1 0) = false) := by
  refine ⟨by decide +kernel, ?_, ?_, by decide +kernel, by decide +kernel⟩ <;> (intro q; cases q <;> decide)

/-- A LOCKED_OUT pump 6 without and with its thermal trip; a pump that is not locked; a LOCKED rake with its selector
off, and with it on, by its top switch and its owed cycles. -/
theorem witness_LockoutResets :
    let s := (powered 9).mapCh .p6 fun c => { c with state := .lockedOut, cause := .noStart }
    let r := { powered 9 with rc := { State.reset.rc with state := .locked, cause := .jam } }
    s.queuesRight ∧
    ((6 : Byte).toNat = Pump.p6.num ∧ s.present .p6 = true ∧ s.input (pumpInput .p6 3) = false ∧
      (s.ch.get .p6).state = .lockedOut ∧ causePoint .p6 (s.ch.get .p6).cause = some 27) ∧
    (withInputs [28] s).input (pumpInput .p6 3) = true ∧ (s.ch.get .p1).state ≠ .lockedOut ∧
    (r.rc.state = .locked ∧ r.screenAuto = false ∧ (withInputs [30, 31] r).screenAuto = true ∧
      (withInputs [30, 31] r).rakeTop = true ∧ (withInputs [30] r).rakeTop = false ∧ r.rc.owed = 0 ∧
      (r.mapRc fun c => { c with owed := 2 }).rc.owed ≠ 0 ∧ lockPoint r.rc.cause = some 37 ∧
      (powered 9).rc.state ≠ .locked) := by
  refine ⟨⟨by decide, by decide, ?_⟩, by decide +kernel, by decide +kernel, by decide, by decide +kernel⟩
  intro p
  cases p <;> decide

/-- The order of the three points unseen after reset: 40 and 44 of priority 2, then 45 of priority 3. -/
theorem witness_AttentionRead :
    let h := (late 9).hear .town
    (late 9).settingsRight ∧
    (∀ n, n ∈ [40, 44, 45] ↔ 1 ≤ n ∧ n ≤ 46 ∧ (h.point n).unseen.get .town = true) ∧
    [40, 44, 45].Pairwise (fun a b => h.priority a < h.priority b ∨ (h.priority a = h.priority b ∧ a < b)) := by
  refine ⟨by unfold State.settingsRight; decide +kernel, ?_, by decide +kernel⟩
  have a : ∀ i ∈ List.range 47, (i ∈ [40, 44, 45] ↔
      1 ≤ i ∧ i ≤ 46 ∧ (((late 9).hear .town).point i).unseen.get .town = true) := by decide +kernel
  intro n
  by_cases h : n < 47
  · exact a n (by simpa using h)
  · simp only [List.mem_cons, List.not_mem_nil, or_false]
    omega

/-- The same order for READ_ALARMS, and acknowledgments of point 0, 1, 46 and 47. -/
theorem witness_AlarmsReadAndAcked :
    let s := late 9
    (s.settingsRight ∧ s.pointsHeld ∧
      ∀ n, n ∈ [40, 44, 45] ↔ 1 ≤ n ∧ n ≤ 46 ∧ ((s.hear .town).point n).unseen.get .town = true) ∧
    ((0 : Byte).toNat ≤ 46 ∧ (46 : Byte).toNat ≤ 46 ∧ 46 < (47 : Byte).toNat ∧ s.rl.full = false ∧
      s.rl.log.length < 380 ∧ s.rl.nextSeq ≠ 0 ∧ s.rl.nextSeq < 4294967000) :=
  ⟨⟨witness_AttentionRead.1, by unfold State.pointsHeld; decide, witness_AttentionRead.2.1⟩, by decide⟩

/-- A cursor on a record, below a gap and at the end; a release of a full log; a clock set with room. -/
theorem witness_LogRequests :
    let s := late 9
    let cur := fun n l => { s with rl := { s.rl with cursor := n, log := l } }
    let r : LogRec := ⟨3, true, none, 0, .restart .cold .power⟩
    (∃ x ∈ ((cur 3 [r]).hear .panel).rl.log, x.seq = 3) ∧
    ((∀ x ∈ ((cur 1 [r]).hear .panel).rl.log, x.seq ≠ 1) ∧ 1 < ((cur 1 [r]).hear .panel).rl.nextSeq) ∧
    ((∀ x ∈ ((cur 5 [r]).hear .panel).rl.log, x.seq ≠ 5) ∧ ((cur 5 [r]).hear .panel).rl.nextSeq ≤ 5) ∧
    (({ s with rl := { s.rl with full := true } }.hear .town).rl.full = true ∧
      (s.hear .town).rl.full = false ∧ (s.hear .town).rl.nextSeq ≠ 0 ∧ (s.hear .town).rl.nextSeq ≠ 4294967295 ∧
      (s.hear .town).rl.log.length < 478) := by decide +kernel

theorem witness_SeekLog :
    let h := (({ late 9 with rl := { State.reset.rl with log := [] } } : State).hear .panel)
    (∀ x ∈ h.rl.log, x.seq ≠ 1) ∧ 1 < h.rl.nextSeq := by decide +kernel

/-- Items 1, 229, 0 and 230; each check of an edit passed and failed, item 46 (1000 to 19000) at its least value and
below it. -/
theorem witness_SettingsReadAndEdited :
    let s := late 9
    let busy := { s with ss := { s.ss with store := .snapshot } }
    let other := { s with ss := { s.ss with holder := some .town } }
    ((1 : BitVec 16).toNat ≤ 229 ∧ (229 : BitVec 16).toNat ≤ 229 ∧ (0 : BitVec 16).toNat = 0 ∧
      229 < (230 : BitVec 16).toNat) ∧
    (s.ss.store = .idle ∧ s.ss.holder = none ∧ s.liu.sim = none ∧ (1000 : BitVec 32).toNat = 1000 ∧
      ¬(1000 ≤ (999 : BitVec 32).toNat)) ∧
    busy.ss.store ≠ .idle ∧ (other.ss.holder ≠ none ∧ other.ss.holder ≠ some .panel) ∧
    (simulated 5 9 s).liu.sim ≠ none := by decide

/-- A holder with a consistent copy and with an inconsistent one, and each refusal of the gate. -/
theorem witness_StagingEnded :
    let held := fun l => { late 9 with ss := { State.reset.ss with holder := some .town, entries := l } }
    ((held [(7, 900)]).ss.store = .idle ∧ (held [(7, 900)]).ss.holder = some .town ∧
      (held [(7, 900)]).inconsistentItem = none) ∧
    (held [(7, 5000)]).inconsistentItem = some 8 ∧
    ({ late 9 with ss := { State.reset.ss with store := .snapshot } } : State).ss.store ≠ .idle ∧
    ((held []).ss.holder ≠ some .panel ∧ (late 9).ss.holder ≠ some .panel) := by decide +kernel

/-- A state with the town's staging copy, and what makes its commit accepted. -/
def staging (l : List (Nat × Nat)) (s : State) : State := { s with ss := { s.ss with holder := some .town, entries := l } }

/-- What the statements of a commit ask of such a state, with each staged value another than the active one. -/
def committable (s : State) : Bool :=
  s.ss.store == .idle && s.ss.holder == some .town && s.inconsistentItem.isNone && decide (s.rc.owed ≤ 8) &&
    settingsSound s.ss.active &&
    s.ss.entries.all fun e => isItem e.1 && inItemRange e.1 e.2 && s.item e.1 != e.2

/-- Consistent copies that stage an item of each block, calibration, floats, HIGH_LEVEL, tables, a pump item, a pump's
fitting, stage levels, the duty hold, the limits, the dead times; a received level outside fallback; a lowered limit; a
held DELTA and a held DOWN whose new dead time has run and has not. -/
theorem witness_CommitApplied :
    let s := late 9
    let out := { s with su := { s.su with fallback := false, level := some 2000 } }
    let lim := { powered 9 with su := { State.reset.su with handover := none } }
    let held := ((autoIn .changeover .p1 (powered 900)).setPair (.pump .p1) ⟨false, false, some 845, none, some .second⟩)
    let rake := (powered 900).setPair .rake ⟨false, false, some 845, none, some .second⟩
    (∀ l ∈ [[(2, 2800)], [(7, 900)], [(8, 4300)], [(10, 4700)], [(46, 5300)], [(pumpItem .p1 2, 900)],
        [(pumpItem .p6 0, 1)], [(11, 2550)], [(26, 0)], [(27, 2)], [(28, 1)], [(30, 50)], [(31, 20)], [(44, 50)]],
      committable (staging l s) = true) ∧
    (s.alarms.points.length = 46 ∧ s.sa.holder = .none ∧ s.liu.sim = none ∧ s.su.handover = none) ∧
    (out.su.fallback = false ∧ out.su.level = some 2000) ∧
    (lim.sa.power ≠ .dead ∧ 2 < lim.sa.limit ∧ lim.su.handover = none ∧ committable (staging [(27, 2)] lim) = true) ∧
    ((held.cg.pump.get .p1).held = some .second ∧ (held.cg.pump.get .p1).secondOn = false ∧ 845 + 50 ≤ held.uptime ∧
      ¬(845 + 60 ≤ held.uptime) ∧ (held.ch.get .p1).state = .changeover ∧ (held.ch.get .p1).deferred = false ∧
      committable (staging [(30, 50)] held) = true ∧ committable (staging [(30, 60)] held) = true) ∧
    (rake.cg.rake.held = some .second ∧ rake.cg.rake.firstOn = false ∧ committable (staging [(44, 50)] rake) = true) := by
  decide +kernel

/-- Copies that stage an item of each of the other blocks: the rake's thresholds and interval, the monitor's level and
times, one by one and together with a debounce that ends, the summary's length, a point's enable, a link time-out. -/
theorem witness_CommitAtOtherBlocks :
    let s := late 9
    let asked := { s with
      liu := { s.liu with diff := some 200 }, rc := { s.rc with state := .parked, armed := true, interval := some 100 } }
    let opening := { late 9000 with om := { State.reset.om with state := .opening, openTimer := some 30000 } }
    (∀ l ∈ [[(35, 200)], [(36, 700)], [(37, 0)], [(43, 900)], [(46, 5300)], [(47, 60)], [(48, 9)], [(49, 90)],
        [(46, 5300), (48, 9)], [(51, 5)], [(193, 1)], [(52, 60)]],
      committable (staging l s) = true) ∧
    (committable (staging [(35, 190)] asked) = true ∧ asked.rc.armed = true ∧ asked.liu.diff = some 200 ∧
      asked.rc.state = .parked ∧ asked.rc.owed < 8) ∧
    (committable (staging [(46, 5300), (48, 9)] opening) = true ∧ opening.om.state = .opening ∧
      30000 - opening.item 48 * 1000 + 9000 ≤ opening.uptime) ∧
    (s.alarms.points.length = 46 ∧ s.rl.clockValid = false ∧
      (late 300000).be.sum.startUp + 5 * 60000 ≤ (late 300000).uptime ∧ (s.hear .town).rl.nextSeq ≠ 0 ∧
      (s.hear .town).rl.nextSeq < 4294967000 ∧ (s.hear .town).rl.log.length < 300) ∧
    ((s.ports.get .panel).link ≠ .silent ∧ s.item 193 = 0 ∧ (s.point 10).state = .normal) := by decide +kernel

end Sys2Proof.Tests
end

section
/-! SUPPORT. The requests of staging at a starter channel (R46, R47, R57, R60, R61): what each step of a stop does to
the channel, in closed form, and from that the effect of START, STOP and STOP_NOW and the request that staging posts. -/

namespace Sys2Proof.Machine

/-! ### A channel under AUTO or MANUAL -/

theorem Chan.staged_iff (c : Chan) : c.staged = true ↔ c.source = .auto ∨ c.source = .manual := by
  simp [Chan.staged]

theorem Chan.asksLine_iff (c : Chan) :
    c.asksLine = true ↔ c.state = .direct ∨ c.state = .star ∨ c.state = .changeover ∨ c.state = .running := by
  simp [Chan.asksLine, Chan.inSequence, or_assoc]

theorem Chan.resting_iff (c : Chan) : c.resting = true ↔ c.state = .idle ∧ c.rest ≠ none := by
  simp [Chan.resting, Option.isSome_iff_ne_none]

theorem Chan.source_ne_hand {c : Chan} (h : c.staged = true) : c.source ≠ .hand := by
  rcases c.staged_iff.1 h with h | h <;> simp [h]

/-- Under AUTO or MANUAL the entry is to IDLE, never to UNAVAILABLE. -/
theorem Chan.idleEntry_state {c : Chan} (h : c.staged = true) (now : Nat) : (c.idleEntry now).state = .idle := by
  rcases c.staged_iff.1 h with h | h <;> simp [Chan.idleEntry, h]

theorem Chan.idleEntry_eq {c : Chan} (h : c.staged = true) (now : Nat) :
    c.idleEntry now = { c.idleEntry now with state := .idle } := by
  rw [← Chan.idleEntry_state h now]

/-! ### The join test and the entry to IDLE -/

/-- R57: an IDLE channel with a standing START, no rest and a live supply joins the start queue. -/
theorem State.testJoin_joins (s : State) (p : Pump) (staged : (s.ch.get p).staged = true)
    (standing : (s.ch.get p).standing = true) (low : s.lowMade = true) (idle : (s.ch.get p).state = .idle)
    (rested : (s.ch.get p).rest = none) (live : s.sa.power ≠ .dead) :
    s.testJoin p =
      { s with
        ch := s.ch.set p { s.ch.get p with state := .queued }
        sa := { s.sa with queue := s.sa.queue ++ [p] }
        work := { s.work with offer := true } } := by
  have awake : (s.ch.get p).resting = false := by simp [Chan.resting, rested]
  simp [State.testJoin, idle, live, Chan.source_ne_hand staged, staged, standing, awake, low, State.mapCh,
    State.askOffer]

/-- R57: a channel under AUTO or MANUAL stays out of the queue where one thing that joining asks for is missing. -/
theorem State.testJoin_stays (s : State) (p : Pump) (staged : (s.ch.get p).staged = true)
    (missing : (s.ch.get p).standing = false ∨
      ¬((s.ch.get p).state = .idle ∧ (s.ch.get p).rest = none ∧ s.sa.power ≠ .dead)) :
    s.testJoin p = s := by
  unfold State.testJoin
  by_cases here : (s.ch.get p).state = .idle ∧ s.sa.power ≠ .dead
  · obtain ⟨idle, live⟩ := here
    rcases missing with still | away
    · simp [Chan.source_ne_hand staged, still]
    · have resting : (s.ch.get p).resting = true :=
        (Chan.resting_iff _).2 ⟨idle, fun rested => away ⟨idle, rested, live⟩⟩
      simp [Chan.source_ne_hand staged, resting]
  · simp only [if_neg here]

/-- Without a standing START the entry to IDLE joins no queue. -/
theorem State.goIdle_not_standing (s : State) (p : Pump) (staged : (s.ch.get p).staged = true)
    (withdrawn : (s.ch.get p).standing = false) : s.goIdle p = s.mapCh p (Chan.idleEntry s.uptime) := by
  apply State.testJoin_stays
  · simpa [Chan.idleEntry, Chan.staged] using staged
  · simp [Chan.idleEntry, withdrawn]

/-! ### The outputs dropped and the stop awaited -/

/-- A guarded pair with both members released. -/
def Pair.released (now : Nat) (x : Pair) : Pair := (x.release now .first).release now .second

/-- R77: nothing is active and no request is held after both releases. -/
theorem Pair.released_off (now : Nat) (x : Pair) :
    (x.released now).firstOn = false ∧ (x.released now).secondOn = false ∧ (x.released now).held = none := by
  refine ⟨rfl, rfl, ?_⟩
  rcases held : x.held with _ | _ | _ <;> simp [Pair.released, Pair.release, held]

/-- R62, R73: the channel whose LINE has just dropped: resting from now, unless it is gated. -/
def Chan.lineDropped (now : Nat) (c : Chan) : Chan :=
  if c.gated then c else { c with rest := some (now + c.force.minRest * 1000) }

theorem State.guardRelease_pump (s : State) (p : Pump) (m : Member) :
    s.guardRelease (.pump p) m =
      { s with cg := { s.cg with pump := s.cg.pump.set p ((s.cg.pump.get p).release s.uptime m) } } := rfl

theorem State.guardRelease_both (s : State) (p : Pump) :
    (s.guardRelease (.pump p) .first).guardRelease (.pump p) .second =
      { s with cg := { s.cg with pump := s.cg.pump.set p ((s.cg.pump.get p).released s.uptime) } } := by
  simp [State.guardRelease_pump, Pair.released]

/-- R62: a drop of the outputs where LINE was asked for under AUTO or MANUAL. -/
theorem State.dropOutputs_eq (s : State) (p : Pump) (staged : (s.ch.get p).staged = true)
    (asks : (s.ch.get p).asksLine = true) :
    s.dropOutputs p =
      { s with
        ch := s.ch.set p ((s.ch.get p).lineDropped s.uptime)
        cg := { s.cg with pump := s.cg.pump.set p ((s.cg.pump.get p).released s.uptime) }
        work := { s.work with offer := true } } := by
  unfold State.dropOutputs
  rw [State.guardRelease_both]
  cases gated : (s.ch.get p).gated <;>
    simp [staged, asks, gated, State.mapCh, State.askOffer, Chan.lineDropped]

/-- R62, R73: the channel after its outputs have dropped, by its feedback `fb`. -/
def Chan.stopAwaited (now : Nat) (fb : Bool) (deadline : Option Nat) (c : Chan) : Chan :=
  if c.gated || !fb then c.idleEntry now
  else { c with state := .stopping, deferred := false, seqTimer := none, fbDeadline := deadline }

/-- R73: a gated channel has no feedback to wait for. -/
theorem Chan.stopAwaited_gone {c : Chan} {fb : Bool} (gone : c.gated = true ∨ fb = false) (now : Nat)
    (deadline : Option Nat) : c.stopAwaited now fb deadline = c.idleEntry now := by
  rcases gone with gated | fallen
  · simp [Chan.stopAwaited, gated]
  · simp [Chan.stopAwaited, fallen]

theorem State.awaitStop_eq (s : State) (p : Pump) (staged : (s.ch.get p).staged = true)
    (withdrawn : (s.ch.get p).standing = false) :
    s.awaitStop p = s.mapCh p (Chan.stopAwaited s.uptime (s.input (pumpInput p 2)) s.freshDeadline) := by
  unfold State.awaitStop
  split
  next gone => simp [State.goIdle_not_standing s p staged withdrawn, State.mapCh, Chan.stopAwaited, gone]
  next fed => simp [State.mapCh, Chan.stopAwaited, fed]

theorem Chan.lineDropped_staged (now : Nat) (c : Chan) : (c.lineDropped now).staged = c.staged := by
  unfold Chan.lineDropped; split <;> rfl

theorem Chan.lineDropped_gated (now : Nat) (c : Chan) : (c.lineDropped now).gated = c.gated := by
  unfold Chan.lineDropped; split <;> rfl

theorem Chan.lineDropped_standing (now : Nat) (c : Chan) : (c.lineDropped now).standing = c.standing := by
  unfold Chan.lineDropped; split <;> rfl

/-- R62: `s` with LINE of `p` dropped, STAR and DELTA released, the permit released by its holder, an offer due, and the
channel moved on to `d`. -/
def State.lineFallen (s : State) (p : Pump) (d : Chan) : State :=
  { s with
    ch := s.ch.set p d
    cg := { s.cg with pump := s.cg.pump.set p ((s.cg.pump.get p).released s.uptime) }
    sa :=
      if s.sa.holder = .pump p then
        { s.sa with holder := .none, lastRelease := some s.uptime, staggerOn := true, rakeInrush := none }
      else s.sa
    work := { s.work with offer := true } }

/-- A change of the channel before it moves on is overwritten. -/
theorem State.mapCh_lineFallen (s : State) (p : Pump) (f : Chan → Chan) (d : Chan) :
    (s.mapCh p f).lineFallen p d = s.lineFallen p d := by
  unfold State.lineFallen State.mapCh
  rw [PerPump.set_set]

theorem State.standDown_eq (s : State) (p : Pump) (staged : (s.ch.get p).staged = true)
    (asks : (s.ch.get p).asksLine = true) :
    s.standDown p = s.lineFallen p ((s.ch.get p).lineDropped s.uptime) := by
  unfold State.standDown
  rw [State.dropOutputs_eq _ _ (by simpa using staged) (by simpa using asks)]
  unfold State.releasePermit State.lineFallen
  split <;> rfl

/-- The feedback deadline reads the uptime, the power source and the settings alone. -/
theorem State.freshDeadline_lineFallen (s : State) (p : Pump) (d : Chan) :
    (s.lineFallen p d).freshDeadline = s.freshDeadline := by
  have power : (s.lineFallen p d).sa.power = s.sa.power := by
    unfold State.lineFallen
    dsimp only
    split <;> rfl
  unfold State.freshDeadline
  rw [power]
  rfl

/-- R62: the entry to STOPPING from a start sequence or RUNNING, with no request standing, in closed form. -/
theorem State.enterStopping_eq (s : State) (p : Pump) (staged : (s.ch.get p).staged = true)
    (asks : (s.ch.get p).asksLine = true) (withdrawn : (s.ch.get p).standing = false) :
    s.enterStopping p =
      s.lineFallen p
        (((s.ch.get p).lineDropped s.uptime).stopAwaited s.uptime (s.input (pumpInput p 2)) s.freshDeadline) := by
  have channel : (s.standDown p).ch.get p = (s.ch.get p).lineDropped s.uptime := by
    simp [State.standDown_eq s p staged asks, State.lineFallen]
  unfold State.enterStopping
  rw [State.awaitStop_eq _ _ (by rwa [channel, Chan.lineDropped_staged]) (by rwa [channel, Chan.lineDropped_standing]),
    State.standDown_eq s p staged asks, State.freshDeadline_lineFallen]
  simp [State.mapCh, State.lineFallen, State.input]

/-! ### A stop of a channel whose LINE is asked for -/

/-- R62: `t` is `s` with the outputs of `p` dropped and its request withdrawn: STOPPING where the real feedback is
active and `p` is not gated, gone on to IDLE otherwise. -/
def State.StoppedTo (s t : State) (p : Pump) : Prop :=
  let c := s.ch.get p
  let d := t.ch.get p
  (c.gated = false → s.input (pumpInput p 2) = true →
    d =
      { c with
        state := .stopping, standing := false, deferred := false, seqTimer := none
        rest := some (s.uptime + c.force.minRest * 1000)
        fbDeadline := if s.sa.power = .dead then none else some (s.uptime + s.item 29 * 1000) }) ∧
  (c.gated = true ∨ s.input (pumpInput p 2) = false →
    d.state = .idle ∧ d.standing = false ∧ d.deferred = false ∧ d.seqTimer = none ∧ d.fbDeadline = none ∧
    d.gated = false ∧ d.source = c.source ∧ d.force = c.pendingSet.getD c.force ∧ d.pendingSet = none ∧
    (c.gated = false → d.rest =
      if c.force.minRest = 0 then none else some (s.uptime + c.force.minRest * 1000))) ∧
  (t.cg.pump.get p).firstOn = false ∧ (t.cg.pump.get p).secondOn = false ∧ (t.cg.pump.get p).held = none ∧
  (∀ q, q ≠ p → t.ch.get q = s.ch.get q ∧ t.cg.pump.get q = s.cg.pump.get q) ∧
  t.sa =
    (if s.sa.holder = .pump p then
      { s.sa with holder := .none, lastRelease := some s.uptime, staggerOn := true, rakeInrush := none }
    else s.sa) ∧
  t = { s with ch := t.ch, cg := { s.cg with pump := t.cg.pump }, sa := t.sa, work := { s.work with offer := true } }

/-- What the entry to IDLE leaves of a channel whose LINE has just dropped (logs 18 and 50). -/
theorem Chan.idleEntry_lineDropped (now : Nat) {c : Chan} (staged : c.staged = true) :
    let d := (c.lineDropped now).idleEntry now
    d.state = .idle ∧ d.standing = c.standing ∧ d.deferred = false ∧ d.seqTimer = none ∧ d.fbDeadline = none ∧
    d.gated = false ∧ d.source = c.source ∧ d.force = c.pendingSet.getD c.force ∧ d.pendingSet = none ∧
    (c.gated = false → d.rest = if c.force.minRest = 0 then none else some (now + c.force.minRest * 1000)) := by
  refine ⟨Chan.idleEntry_state (by rwa [Chan.lineDropped_staged]) now, ?_⟩
  cases gated : c.gated
  · rcases Nat.eq_zero_or_pos c.force.minRest with noRest | someRest
    · simp [Chan.idleEntry, Chan.lineDropped, gated, noRest]
    · simp [Chan.idleEntry, Chan.lineDropped, gated, someRest, Nat.ne_of_gt someRest]
  · simp [Chan.idleEntry, Chan.lineDropped, gated]

/-- A channel that asks for LINE, its request withdrawn, is stopped by the entry to STOPPING. -/
theorem State.enterStopping_stoppedTo (s : State) (p : Pump) (f : Chan → Chan) (later : Bool)
    (withdraws : f (s.ch.get p) = { s.ch.get p with standing := false, deferred := later })
    (staged : (s.ch.get p).staged = true) (asks : (s.ch.get p).asksLine = true) :
    s.StoppedTo ((s.mapCh p f).enterStopping p) p := by
  have channel : (s.mapCh p f).ch.get p = { s.ch.get p with standing := false, deferred := later } := by
    simp [withdraws]
  have closed := State.enterStopping_eq (s.mapCh p f) p (by rwa [channel]) (by rwa [channel]) (by rw [channel])
  rw [State.mapCh_lineFallen, channel] at closed
  rw [closed]
  obtain ⟨firstOff, secondOff, noneHeld⟩ := Pair.released_off s.uptime (s.cg.pump.get p)
  refine ⟨?stopping, ?idle, ?_, ?_, ?_, ?others, rfl, rfl⟩
  case stopping =>
    intro ungated fed
    have fed' : (s.mapCh p f).input (pumpInput p 2) = true := fed
    have deadline : (s.mapCh p f).freshDeadline =
        if s.sa.power = .dead then none else some (s.uptime + s.item 29 * 1000) := rfl
    simp [State.lineFallen, Chan.lineDropped, Chan.stopAwaited, ungated, fed', deadline]
  case idle =>
    intro gone
    simp only [State.lineFallen, PerPump.get_set_self]
    rw [Chan.stopAwaited_gone (by rwa [Chan.lineDropped_gated])]
    exact Chan.idleEntry_lineDropped s.uptime staged
  case others =>
    intro q other
    simp [State.lineFallen, other]
  all_goals simpa [State.lineFallen]

/-! ### The requests taken -/

/-- R60, R61: a QUEUED channel whose request is withdrawn by `f` leaves the queue and enters IDLE. -/
theorem State.leaveQueue_eq (s : State) (p : Pump) (f : Chan → Chan) (staged : (f (s.ch.get p)).staged = true)
    (withdrawn : (f (s.ch.get p)).standing = false) :
    ((s.mapCh p f).leaveQueues p).goIdle p =
      { s with
        ch := s.ch.set p { (f (s.ch.get p)).idleEntry s.uptime with state := .idle }
        sa := { s.sa with queue := s.sa.queue.filter (· != p), waiters := s.sa.waiters.filter (· != p) } } := by
  rw [State.goIdle_not_standing _ _ (by simpa using staged) (by simpa using withdrawn), ← Chan.idleEntry_eq staged]
  simp [State.mapCh, State.leaveQueues]

/-- A channel with a START standing. -/
def Chan.asked (c : Chan) : Chan := { c with standing := true, deferred := false }

theorem State.takeStart_low_made (s : State) (p : Pump) (staged : (s.ch.get p).staged = true)
    (low : s.lowMade = true) : s.takeStart p = (s.mapCh p Chan.asked).testJoin p := by
  rw [State.takeStart, if_pos (by simp [staged, low])]
  rfl

/-- R57: a START that an IDLE channel joins the queue with. -/
theorem State.takeStart_joins (s : State) (p : Pump) (staged : (s.ch.get p).staged = true) (low : s.lowMade = true)
    (idle : (s.ch.get p).state = .idle) (rested : (s.ch.get p).rest = none) (live : s.sa.power ≠ .dead) :
    s.takeStart p =
      { s with
        ch := s.ch.set p { (s.ch.get p).asked with state := .queued }
        sa := { s.sa with queue := s.sa.queue ++ [p] }
        work := { s.work with offer := true } } := by
  have channel : (s.mapCh p Chan.asked).ch.get p = (s.ch.get p).asked := by simp
  rw [State.takeStart_low_made s p staged low,
    State.testJoin_joins (s.mapCh p Chan.asked) p (by rwa [channel]) (by rw [channel]; rfl) low (by rwa [channel])
      (by rwa [channel]) live]
  simp [State.mapCh]

/-- R57: a START that stands where the channel cannot join yet. -/
theorem State.takeStart_stands (s : State) (p : Pump) (staged : (s.ch.get p).staged = true) (low : s.lowMade = true)
    (away : ¬((s.ch.get p).state = .idle ∧ (s.ch.get p).rest = none ∧ s.sa.power ≠ .dead)) :
    s.takeStart p = s.mapCh p Chan.asked := by
  have channel : (s.mapCh p Chan.asked).ch.get p = (s.ch.get p).asked := by simp
  rw [State.takeStart_low_made s p staged low,
    State.testJoin_stays (s.mapCh p Chan.asked) p (by rwa [channel]) (.inr (by rwa [channel]))]

/-- R57: a START discarded and reported with the LOW float released. -/
theorem State.takeStart_low_released (s : State) (p : Pump) (released : s.lowMade = false) :
    s.takeStart p = { s with su := { s.su with posted := s.su.posted.set p .none } } := by
  simp [State.takeStart, released]

/-- R60: a STOP takes a QUEUED channel out of the queue. -/
theorem State.takeStop_queued (s : State) (p : Pump) (queued : (s.ch.get p).state = .queued) :
    s.takeStop p = ((s.mapCh p fun c => { c with standing := false }).leaveQueues p).goIdle p := by
  simp [State.takeStop, queued]

/-- R60: a STOP is deferred in a start sequence, and in RUNNING until min_run has run. -/
theorem State.takeStop_deferred (s : State) (p : Pump)
    (early : (s.ch.get p).state = .direct ∨ (s.ch.get p).state = .star ∨ (s.ch.get p).state = .changeover ∨
      ((s.ch.get p).state = .running ∧ ¬(s.ch.get p).runningSince + (s.ch.get p).force.minRun * 1000 ≤ s.uptime)) :
    s.takeStop p = s.mapCh p fun c => { c with standing := false, deferred := true } := by
  rcases early with direct | star | changeover | ⟨running, short⟩
  · simp [State.takeStop, direct, State.mapCh]
  · simp [State.takeStop, star, State.mapCh]
  · simp [State.takeStop, changeover, State.mapCh]
  · simp [State.takeStop, running, State.mapCh, Chan.minRunPassed, short]

/-- R60: a STOP stops a RUNNING channel whose min_run has run. -/
theorem State.takeStop_running (s : State) (p : Pump) (running : (s.ch.get p).state = .running)
    (ran : (s.ch.get p).runningSince + (s.ch.get p).force.minRun * 1000 ≤ s.uptime) :
    s.takeStop p = (s.mapCh p fun c => { c with standing := false }).enterStopping p := by
  simp [State.takeStop, running, Chan.minRunPassed, ran]

/-- R60: in every other state a STOP only withdraws the standing request. -/
theorem State.takeStop_still (s : State) (p : Pump)
    (still : (s.ch.get p).state = .idle ∨ (s.ch.get p).state = .unavailable ∨ (s.ch.get p).state = .stopping ∨
      (s.ch.get p).state = .lockedOut) :
    s.takeStop p = s.mapCh p fun c => { c with standing := false } := by
  rcases still with h | h | h | h <;> simp [State.takeStop, h]

/-- R61: a STOP_NOW takes a QUEUED channel out of the queue. -/
theorem State.takeStopNow_queued (s : State) (p : Pump) (queued : (s.ch.get p).state = .queued) :
    s.takeStopNow p =
      ((s.mapCh p fun c => { c with standing := false, deferred := false }).leaveQueues p).goIdle p := by
  simp [State.takeStopNow, queued]

/-- R61: a STOP_NOW stops a channel whose LINE is asked for, whatever it has run. -/
theorem State.takeStopNow_runs (s : State) (p : Pump)
    (runs : (s.ch.get p).state = .direct ∨ (s.ch.get p).state = .star ∨ (s.ch.get p).state = .changeover ∨
      (s.ch.get p).state = .running) :
    s.takeStopNow p = (s.mapCh p fun c => { c with standing := false, deferred := false }).enterStopping p := by
  rcases runs with h | h | h | h <;> simp [State.takeStopNow, h]

/-- R61: in every other state a STOP_NOW only withdraws the request and the deferred stop. -/
theorem State.takeStopNow_still (s : State) (p : Pump)
    (still : (s.ch.get p).state = .idle ∨ (s.ch.get p).state = .unavailable ∨ (s.ch.get p).state = .stopping ∨
      (s.ch.get p).state = .lockedOut) :
    s.takeStopNow p = s.mapCh p fun c => { c with standing := false, deferred := false } := by
  rcases still with h | h | h | h <;> simp [State.takeStopNow, h]

/-! ### The request that staging posts -/

theorem State.outgoing_iff (s : State) (p : Pump) :
    s.outgoing p = true ↔ ∃ h, s.su.handover = some h ∧ p ∈ h.outgoing := by
  cases handover : s.su.handover <;> simp [State.outgoing, handover]

/-- R46: the request wanted of an AUTO pump. -/
theorem State.wanted_auto (s : State) (p : Pump) (auto : (s.ch.get p).source = .auto) :
    s.wanted p =
      if p ∈ s.su.target then if s.su.posted.get p = .start then none else some .start
      else if s.su.posted.get p = .start ∧ ¬s.outgoing p = true then some .stop
      else none := by
  simp [State.wanted, auto]

/-- R47: the request wanted of a MANUAL pump ordered to run, which waits until it may start. -/
theorem State.wanted_manual_run (s : State) (p : Pump) {e : Entry} (manual : (s.ch.get p).source = .manual)
    (entry : s.su.entry.get p = some e) (run : e.act = .run) :
    s.wanted p =
      if s.su.posted.get p ≠ .start ∧ s.lowMade = true ∧ (s.ch.get p).state ≠ .lockedOut ∧
          ¬((s.ch.get p).state = .idle ∧ (s.ch.get p).rest ≠ none) then
        some .start
      else none := by
  simp only [← Chan.resting_iff, State.wanted, manual, entry, run]
  rw [← ite_not]
  simp only [Bool.or_eq_true, decide_eq_true_eq, Bool.not_eq_true', not_or, Bool.not_eq_false, ne_eq, and_assoc]
  congr 1
  exact propext (by tauto)

/-- R47: the request wanted of a MANUAL pump ordered to stop. -/
theorem State.wanted_manual_stop (s : State) (p : Pump) {e : Entry} (manual : (s.ch.get p).source = .manual)
    (entry : s.su.entry.get p = some e) (stop : e.act = .stop) :
    s.wanted p = if s.su.posted.get p = .stopNow then none else some .stopNow := by
  simp [State.wanted, manual, entry, stop]

theorem State.wanted_none (s : State) (p : Pump) (out : (s.ch.get p).source = .hand ∨ (s.ch.get p).source = .off) :
    s.wanted p = none := by
  rcases out with h | h <;> simp [State.wanted, h]

theorem State.postOne_of_none (s : State) (p : Pump) (h : s.wanted p = none) : s.postOne p = s := by
  simp [State.postOne, h]

/-- The Staging Unit's note of the request it posts to a pump. -/
def State.noted (s : State) (p : Pump) (r : Req) : State := { s with su := { s.su with posted := s.su.posted.set p r } }

/-- R57: a channel under AUTO or MANUAL takes the START posted to it. -/
theorem State.postOne_start (s : State) (p : Pump) (staged : (s.ch.get p).staged = true)
    (wanted : s.wanted p = some .start) : s.postOne p = (s.noted p .start).takeStart p := by
  simp [State.postOne, wanted, State.postRequest, staged, State.noted]

/-- R57: a channel under AUTO or MANUAL takes the STOP posted to it. -/
theorem State.postOne_stop (s : State) (p : Pump) (staged : (s.ch.get p).staged = true)
    (wanted : s.wanted p = some .stop) : s.postOne p = (s.noted p .stop).takeStop p := by
  simp [State.postOne, wanted, State.postRequest, staged, State.noted]

/-- R57: a channel under AUTO or MANUAL takes the STOP_NOW posted to it. -/
theorem State.postOne_stopNow (s : State) (p : Pump) (staged : (s.ch.get p).staged = true)
    (wanted : s.wanted p = some .stopNow) : s.postOne p = (s.noted p .stopNow).takeStopNow p := by
  simp [State.postOne, wanted, State.postRequest, staged, State.noted]

/-- Settles O24, by the state of the channel for START, STOP and STOP_NOW, and by the pump's source for the request that
staging posts. Each stop of a channel whose LINE is asked for is `State.enterStopping_stoppedTo`. -/
theorem requestsTaken : Obligations.RequestsTaken := by
  unfold Obligations.RequestsTaken
  refine ⟨?start, ?stop, ?stopNow, ?posted⟩
  case start =>
    intro s p staged
    refine ⟨fun low ⟨idle, rested, live⟩ => ?_, fun low away => ?_, fun released => ?_⟩
    · exact s.takeStart_joins p staged low idle rested live
    · exact s.takeStart_stands p staged low away
    · exact s.takeStart_low_released p released
  case stop =>
    intro s p staged
    refine ⟨fun queued => ?_, fun early => ?_, fun running ran => ?_, fun still => ?_⟩
    · exact (s.takeStop_queued p queued).trans (s.leaveQueue_eq p _ staged rfl)
    · exact s.takeStop_deferred p early
    · rw [s.takeStop_running p running ran]
      exact s.enterStopping_stoppedTo p _ _ rfl staged
        ((Chan.asksLine_iff _).2 (.inr (.inr (.inr running))))
    · exact s.takeStop_still p still
  case stopNow =>
    intro s p staged
    refine ⟨fun queued => ?_, fun runs => ?_, fun still => ?_⟩
    · exact (s.takeStopNow_queued p queued).trans (s.leaveQueue_eq p _ staged rfl)
    · rw [s.takeStopNow_runs p runs]
      exact s.enterStopping_stoppedTo p _ _ rfl staged ((Chan.asksLine_iff _).2 runs)
    · exact s.takeStopNow_still p still
  case posted =>
    intro s p
    refine ⟨fun auto => ?_, fun e manual entry => ?_, fun out => ?_⟩
    · have staged := (Chan.staged_iff _).2 (.inl auto)
      have wanted := s.wanted_auto p auto
      refine ⟨fun target fresh => ?_, fun gone started staying => ?_, fun settled => ?_⟩
      · exact s.postOne_start p staged (by rw [wanted, if_pos target, if_neg fresh])
      · exact s.postOne_stop p staged
          (by rw [wanted, if_neg gone, if_pos ⟨started, fun h => staying ((s.outgoing_iff p).1 h)⟩])
      · apply s.postOne_of_none p
        rw [wanted]
        rcases settled with ⟨target, started⟩ | ⟨gone, kept⟩
        · rw [if_pos target, if_pos started]
        · rw [← State.outgoing_iff] at kept
          rw [if_neg gone, if_neg (by tauto)]
    · have staged := (Chan.staged_iff _).2 (.inr manual)
      refine ⟨fun run fresh may => ?_, fun run held => ?_, fun stop fresh => ?_, fun stop told => ?_⟩
      · exact s.postOne_start p staged (by rw [s.wanted_manual_run p manual entry run, if_pos ⟨fresh, may⟩])
      · apply s.postOne_of_none p
        rw [s.wanted_manual_run p manual entry run, if_neg]
        rintro ⟨fresh, may⟩
        exact held.elim fresh (fun may_not => may_not may)
      · exact s.postOne_stopNow p staged (by rw [s.wanted_manual_stop p manual entry stop, if_neg fresh])
      · exact s.postOne_of_none p (by rw [s.wanted_manual_stop p manual entry stop, if_pos told])
    · exact s.postOne_of_none p (s.wanted_none p out)

end Sys2Proof.Machine
end

section
/-! SUPPORT. The beacon (R129) and the disabled points (R122). `State.BeaconKept s t` is what every operation but a
reset and a commit gives, as a relation that composes; after it stands one rule per operation that reaches the Alarm
Table, in the order of the model, and then the two commands that replace the settings. -/

namespace Sys2Proof.Machine

/-! ### The Alarm Table -/

/-- R122: point `n` is NORMAL where it is disabled; `State.beaconRight` asks it of points 1 to 46. -/
def State.Quiet (s : State) (n : Nat) : Prop := s.enabled n = false → (s.point n).state = .normal

theorem State.point_setPoint (s : State) (n m : Nat) (a : Alarm) :
    (s.setPoint n a).point m = if n - 1 = m - 1 ∧ n - 1 < s.alarms.points.length then a else s.point m := by
  simp only [State.point, State.setPoint_alarms, List.getD_eq_getElem?_getD, List.getElem?_set]
  by_cases same : n - 1 = m - 1
  · by_cases held : m - 1 < s.alarms.points.length
    · simp [same, held]
    · simp [same, held]
  · simp [same]

theorem State.point_of_length_le (s : State) {n : Nat} (out : s.alarms.points.length ≤ n - 1) :
    s.point n = Alarm.reset :=
  List.getD_eq_default _ _ out

/-- The states of the points are all that the beacon and the quiet points read of the table. -/
theorem State.beaconOf_congr {s t : State} (active : t.ss.active = s.ss.active)
    (states : ∀ n, (t.point n).state = (s.point n).state) : t.beaconOf = s.beaconOf := by
  simp only [State.beaconOf, State.priority, State.item, active, states]

theorem State.enabled_congr {s t : State} (active : t.ss.active = s.ss.active) (n : Nat) :
    t.enabled n = s.enabled n := by
  simp only [State.enabled, State.item, active]

/-- R122: a post to a disabled point moves it to no other state. -/
theorem postedAlarm_disabled (now : Option Nat) (c : Bool) (a : Alarm) :
    (postedAlarm now false c a).state = a.state := by
  unfold postedAlarm
  split <;> rfl

theorem linkPoint_pos (p : Port) : 0 < linkPoint p := by
  cases p <;> simp [linkPoint]

@[simp] theorem State.dropClaim_active (s : State) (p : Port) : (s.dropClaim p).ss.active = s.ss.active := by
  unfold State.dropClaim
  split <;> rfl

@[simp] theorem State.beginWrite_active (s : State) (w : Store) : (s.beginWrite w).ss.active = s.ss.active := rfl

@[simp] theorem State.freeStaging_active (s : State) : s.freeStaging.ss.active = s.ss.active := rfl

@[simp] theorem State.clearDropped_active (s : State) (p : Port) : (s.clearDropped p).ss.active = s.ss.active := rfl

@[simp] theorem State.acceptEdit_active (s : State) (p : Port) (k v : Nat) :
    (s.acceptEdit p k v).ss.active = s.ss.active := rfl

/-- The active settings stay, and every point that is quiet stays so. -/
structure State.QuietKept (s t : State) : Prop where
  active : t.ss.active = s.ss.active
  quiet : ∀ n, 0 < n → s.Quiet n → t.Quiet n

/-- With them the beacon, once right, stays right. -/
structure State.BeaconKept (s t : State) : Prop extends State.QuietKept s t where
  beacon : s.alarms.beacon = s.beaconOf → t.alarms.beacon = t.beaconOf

theorem State.BeaconKept.beaconRight {s t : State} (h : s.BeaconKept t) (right : s.beaconRight) : t.beaconRight :=
  ⟨h.beacon right.1, fun n low high => h.quiet n low (right.2 n low high)⟩

namespace State.QuietKept

variable {s t u : State}

theorem trans (h : s.QuietKept t) (k : t.QuietKept u) : s.QuietKept u where
  active := k.active.trans h.active
  quiet n pos quiet := k.quiet n pos (h.quiet n pos quiet)

/-- A point's record replaced: a disabled point that was NORMAL must be left NORMAL. -/
theorem setPoint (n : Nat) (a : Alarm) (pos : 0 < n)
    (ok : s.enabled n = false → (s.point n).state = .normal → a.state = .normal) : s.QuietKept (s.setPoint n a) where
  active := rfl
  quiet m posm quiet disabled := by
    have normal := quiet disabled
    rw [State.point_setPoint]
    split
    next at_n =>
      obtain rfl : n = m := by omega
      exact ok disabled normal
    next => exact normal

/-- R129: a re-evaluation makes the beacon right whatever it was. -/
theorem refreshLines (h : s.QuietKept t) : s.BeaconKept t.refreshLines where
  active := h.active
  quiet := h.quiet
  beacon _ := rfl

end State.QuietKept

namespace State.BeaconKept

variable {s t u : State}

theorem refl (s : State) : s.BeaconKept s := ⟨⟨rfl, fun _ _ => id⟩, id⟩

theorem trans (h : s.BeaconKept t) (k : t.BeaconKept u) : s.BeaconKept u where
  toQuietKept := h.toQuietKept.trans k.toQuietKept
  beacon right := k.beacon (h.beacon right)

/-- The settings, the beacon and the states of the points stay as they are. -/
theorem of_states (active : t.ss.active = s.ss.active) (lamp : t.alarms.beacon = s.alarms.beacon)
    (states : ∀ n, (t.point n).state = (s.point n).state) : s.BeaconKept t where
  active := active
  quiet n _ quiet disabled := by
    rw [states]
    exact quiet (by rwa [← State.enabled_congr active])
  beacon right := by rw [lamp, right, State.beaconOf_congr active states]

/-- What touches neither the table nor the active settings; the frames of the model's operations show it. -/
theorem frame (h : s.BeaconKept t) (same : u.alarms = t.alarms ∧ u.ss.active = t.ss.active) :
    s.BeaconKept u :=
  h.trans (.of_states same.2 (by rw [same.1]) fun n => by simp only [State.point, same.1])

theorem ite {c : Prop} [Decidable c] (yes : s.BeaconKept t) (no : s.BeaconKept u) :
    s.BeaconKept (if c then t else u) := by
  split <;> assumption

/-- A part of an event that is taken on a condition. -/
theorem opt {c : Prop} [Decidable c] (h : s.BeaconKept t) (op : s.BeaconKept t → s.BeaconKept u) :
    s.BeaconKept (if c then u else t) := ite (op h) h

theorem foldl {α : Type} {f : State → α → State} {l : List α} (h : s.BeaconKept t)
    (each : ∀ u a, a ∈ l → s.BeaconKept u → s.BeaconKept (f u a)) : s.BeaconKept (l.foldl f t) := by
  induction l generalizing t with
  | nil => exact h
  | cons a l ih => exact ih (each t a (by simp) h) fun u b mem => each u b (by simp [mem])

/-! ### Posts, appends and acknowledgments -/

/-- A point's record replaced by one in the same state. -/
theorem setPoint_sameState (h : s.BeaconKept t) {n : Nat} {a : Alarm} (same : a.state = (t.point n).state) :
    s.BeaconKept (t.setPoint n a) := by
  refine h.trans (.of_states rfl rfl fun m => ?_)
  rw [State.point_setPoint]
  split
  next at_n => rw [same, State.point, State.point, at_n.1]
  next => rfl

/-- R122, R123: one post, without the log. -/
theorem postTable (h : s.BeaconKept t) (n : Nat) (c : Bool) (pos : 0 < n) : s.BeaconKept (t.postTable n c) := by
  refine h.trans ?_
  unfold State.postTable
  dsimp only
  split
  next same => exact setPoint_sameState (refl t) same
  next =>
    refine (State.QuietKept.setPoint n _ pos fun disabled normal => ?_).refreshLines
    rw [disabled, postedAlarm_disabled, normal]

/-- R132, R136: an append reaches the table by its posts of LOG_FULL. -/
theorem appendFuel (h : s.BeaconKept t) (fuel : Nat) (b : Body) : s.BeaconKept (appendFuel fuel b t) := by
  induction fuel generalizing t b with
  | zero => exact frame (u := t.appendRaw b) h (by simp)
  | succ fuel ih =>
    unfold Machine.appendFuel
    dsimp only
    split
    next => exact frame h (by simp)
    next v _ =>
      have marked : s.BeaconKept { t.appendRaw b with rl := { (t.appendRaw b).rl with full := v } } := frame h (by simp)
      have posted := marked.postTable 43 v (by simp)
      exact ite posted (ih posted _)

theorem append (h : s.BeaconKept t) (b : Body) : s.BeaconKept (t.append b) := h.appendFuel 3 b

/-- R122 to R125: an owner's post. -/
theorem post (h : s.BeaconKept t) (n : Nat) (c : Bool) (pos : 0 < n) : s.BeaconKept (t.post n c) :=
  ite (h.postTable n c pos) ((h.postTable n c pos).append _)

theorem evalFullAfterRelease (h : s.BeaconKept t) : s.BeaconKept t.evalFullAfterRelease :=
  ite (post (frame h (by simp)) 43 false (by simp)) h

/-- R124: an acknowledgment leaves a NORMAL point NORMAL. -/
theorem ackPoint (h : s.BeaconKept t) (p : Port) (n : Nat) (pos : 0 < n) : s.BeaconKept (t.ackPoint p n) := by
  refine h.trans (ite (refl t) (append (append (State.QuietKept.refreshLines ?_) _) _))
  refine State.QuietKept.setPoint n _ pos fun _ normal => ?_
  simp only [movedAlarm, normal, ackedState]

theorem appendRaw (h : s.BeaconKept t) (b : Body) : s.BeaconKept (t.appendRaw b) := frame h (by simp)

/-! ### The conditions of the level unit -/

theorem evalHigh (h : s.BeaconKept t) : s.BeaconKept t.evalHigh := post (frame h (by simp)) 31 _ (by simp)

theorem evalDisagree (h : s.BeaconKept t) : s.BeaconKept t.evalDisagree := frame h (by simp)

theorem postSensor (h : s.BeaconKept t) (c : Loop) : s.BeaconKept (t.postSensor c) := by
  cases c with
  | well => exact h.post 34 _ (by simp)
  | inlet => exact h.post 35 _ (by simp)

theorem postHighHigh (h : s.BeaconKept t) : s.BeaconKept t.postHighHigh := h.post 32 _ (by simp)

theorem postLeak (h : s.BeaconKept t) (p : Pump) : s.BeaconKept (t.postLeak p) :=
  h.post _ _ (by simp [pumpPoint])

/-! ### The rake -/

theorem rakeLock (h : s.BeaconKept t) (c : LockCause) : s.BeaconKept (t.rakeLock c) := by
  cases c with
  | none => exact frame h (by simp [State.rakeLock, lockPoint])
  | jam => exact post (frame h (by simp)) 37 true (by simp)
  | travel => exact post (frame h (by simp)) 38 true (by simp)

theorem rakeGranted (h : s.BeaconKept t) : s.BeaconKept t.rakeGranted := by
  unfold State.rakeGranted
  refine ite (h.rakeLock _) ?_
  split
  · exact ite (h.rakeLock _) (frame h (by simp))
  · exact ite (frame h (by simp)) (frame h (by simp))

theorem rakeOverloadActive (h : s.BeaconKept t) : s.BeaconKept t.rakeOverloadActive := by
  unfold State.rakeOverloadActive
  split
  · exact h.rakeLock _
  · exact frame h (by simp)
  · exact h.rakeLock _
  · exact h

theorem rakeBackoffEnd (h : s.BeaconKept t) : s.BeaconKept t.rakeBackoffEnd :=
  ite (rakeLock (frame h (by simp)) _) (ite (rakeLock (frame h (by simp)) _) (frame h (by simp)))

theorem rakePlace (h : s.BeaconKept t) : s.BeaconKept t.rakePlace := frame h (by simp)

theorem rakeUnlock (h : s.BeaconKept t) : s.BeaconKept t.rakeUnlock := by
  unfold State.rakeUnlock
  cases t.rc.cause with
  | none => exact frame h (by simp [lockPoint])
  | jam => exact rakePlace (post (frame h (by simp)) 37 false (by simp))
  | travel => exact rakePlace (post (frame h (by simp)) 38 false (by simp))

theorem evalBlinding (h : s.BeaconKept t) (v : Nat) : s.BeaconKept (t.evalBlinding v) :=
  ite (ite (frame h (by simp)) h) (post (frame h (by simp)) 39 false (by simp))

theorem rakeDiff (h : s.BeaconKept t) : s.BeaconKept t.rakeDiff := by
  unfold State.rakeDiff
  split
  · exact evalBlinding (frame h (by simp)) _
  · exact frame h (by simp)

/-! ### The starter channels -/

theorem postCause (h : s.BeaconKept t) (p : Pump) (k : Cause) (v : Bool) : s.BeaconKept (t.postCause p k v) := by
  cases k with
  | none => exact h
  | trip | noStart | noStop | runLost => exact h.post _ _ (by simp [pumpPoint])

theorem lockOut (h : s.BeaconKept t) (p : Pump) (k : Cause) : s.BeaconKept (t.lockOut p k) :=
  postCause (postCause (frame h (by simp)) _ _ _) _ _ _

theorem endLockout (h : s.BeaconKept t) (p : Pump) : s.BeaconKept (t.endLockout p) := by
  have cleared : s.BeaconKept (t.mapCh p fun c => { c with cause := .none }) := frame h (by simp)
  have posted := cleared.postCause p (t.ch.get p).cause false
  exact ite (frame posted (by simp)) (frame posted (by simp))

theorem thermalTrip (h : s.BeaconKept t) (p : Pump) : s.BeaconKept (t.thermalTrip p) := ite h (h.lockOut p _)

theorem feedbackChange (h : s.BeaconKept t) (p : Pump) (active : Bool) : s.BeaconKept (t.feedbackChange p active) := by
  unfold State.feedbackChange
  refine ite (ite (frame h (by simp)) h) ?_
  split
  · exact ite (h.lockOut p _) h
  · exact frame h (by simp)
  all_goals exact h

theorem toOff (h : s.BeaconKept t) (p : Pump) : s.BeaconKept (t.toOff p) := by
  unfold State.toOff
  split
  case h_9 => exact ite (frame h (by simp)) (endLockout (frame h (by simp)) p)
  all_goals exact frame h (by simp)

theorem toAbsent (h : s.BeaconKept t) (p : Pump) : s.BeaconKept (t.toAbsent p) := by
  unfold State.toAbsent
  split
  · exact endLockout (frame h (by simp)) p
  all_goals exact frame h (by simp)

theorem changeSource (h : s.BeaconKept t) (p : Pump) (src : Source) : s.BeaconKept (t.changeSource p src) := by
  refine ite h ?_
  have ungated : s.BeaconKept (if (t.ch.get p).gated then t.ungate p else t) := ite (frame h (by simp)) h
  cases src with
  | off => exact ite (toOff (frame ungated (by simp)) p) (toAbsent (frame ungated (by simp)) p)
  | hand | manual | auto => exact frame ungated (by simp)

theorem rederive (h : s.BeaconKept t) (p : Pump) : s.BeaconKept (t.rederive p) := h.changeSource p _

theorem removeEntry (h : s.BeaconKept t) (p : Pump) : s.BeaconKept (t.removeEntry p) :=
  ite (rederive (frame h (by simp)) p) h

/-! ### The arbiter and the end of an event -/

theorem grant (h : s.BeaconKept t) (k : Holder) : s.BeaconKept (t.grant k) := by
  cases k with
  | none => exact h
  | pump p => exact frame h (by simp [State.grant])
  | rake => exact rakeGranted (frame h (by simp))

theorem offer (h : s.BeaconKept t) : s.BeaconKept t.offer := ite (h.grant _) h

/-- R83: the one offer that closes an event. -/
theorem offered (h : s.BeaconKept t) :
    s.BeaconKept { (if t.work.offer then t.offer else t) with work := ⟨false, false⟩ } :=
  frame (h.opt (c := t.work.offer = true) offer) (by simp)

theorem finish (h : s.BeaconKept t) (old : State) : s.BeaconKept (old.finish t) :=
  offered (t := (old.watchCycle t).settle) (frame h (by simp))

/-! ### Staging and supply -/

theorem endHandover (h : s.BeaconKept t) : s.BeaconKept t.endHandover := frame h (by simp)

theorem enterFallback (h : s.BeaconKept t) (m : ModeChange) : s.BeaconKept (t.enterFallback m) :=
  append (frame h (by simp)) _

theorem fallbackCondition (h : s.BeaconKept t) (m : ModeChange) : s.BeaconKept (t.fallbackCondition m) :=
  ite (h.enterFallback m) (ite (append (frame h (by simp)) _) h)

theorem tryLeaveFallback (h : s.BeaconKept t) : s.BeaconKept t.tryLeaveFallback := by
  unfold State.tryLeaveFallback
  split
  · exact h
  · exact ite (ite (frame h (by simp)) (append (frame h (by simp)) _)) h

theorem suLevel (h : s.BeaconKept t) (l : Nat) : s.BeaconKept (t.suLevel l) :=
  ite (tryLeaveFallback (frame h (by simp))) (ite (frame h (by simp)) (frame h (by simp)))

theorem suReport (h : s.BeaconKept t) : s.BeaconKept t.suReport := by
  unfold State.suReport
  split
  · exact h.tryLeaveFallback
  · exact frame h (by simp)
  · exact fallbackCondition (frame h (by simp)) _
  · exact fallbackCondition (frame h (by simp)) _

theorem changePower (h : s.BeaconKept t) : s.BeaconKept t.changePower :=
  ite h (append (post (frame h (by simp)) 40 _ (by simp)) _)

/-! ### Summaries and overflow events -/

theorem mapLiu (h : s.BeaconKept t) (f : Liu → Liu) : s.BeaconKept (t.mapLiu f) := frame h (by simp)

theorem mapBe (h : s.BeaconKept t) (f : Be → Be) : s.BeaconKept (t.mapBe f) := frame h (by simp)

theorem mapOm (h : s.BeaconKept t) (f : Om → Om) : s.BeaconKept (t.mapOm f) := frame h (by simp)

theorem mapSa (h : s.BeaconKept t) (f : Sa → Sa) : s.BeaconKept (t.mapSa f) := frame h (by simp)

theorem closeSummary (h : s.BeaconKept t) (aligned : Bool) : s.BeaconKept (t.closeSummary aligned) := by
  unfold State.closeSummary
  exact mapBe (h.append _) _

theorem openEvent (h : s.BeaconKept t) : s.BeaconKept t.openEvent :=
  post (append (frame h (by simp)) _) 33 true (by simp)

theorem closeEvent (h : s.BeaconKept t) : s.BeaconKept t.closeEvent := by
  unfold State.closeEvent
  split
  · exact mapOm (post (h.append _) 33 false (by simp)) _
  · exact frame h (by simp)

/-! ### Simulation sessions -/

theorem simStart (h : s.BeaconKept t) (well inlet : Nat) : s.BeaconKept (t.simStart well inlet) :=
  suLevel (mapSa (mapBe (append (post (frame h (by simp)) 46 true (by simp)) _) _) _) well

theorem simSetLevels (h : s.BeaconKept t) (well inlet : Nat) : s.BeaconKept (t.simSetLevels well inlet) := by
  unfold State.simSetLevels
  split
  · exact suLevel (frame h (by simp)) well
  · exact h

theorem suRealLevel (h : s.BeaconKept t) : s.BeaconKept t.suRealLevel := by
  unfold State.suRealLevel
  split
  · exact frame h (by simp)
  · exact h.suLevel _

theorem simEnd (h : s.BeaconKept t) (r : ExitReason) : s.BeaconKept (t.simEnd r) := by
  have ended {u : State} (k : s.BeaconKept u) : s.BeaconKept (Pump.all.foldl State.sessionEndChannel u) :=
    foldl k fun _ _ _ k => frame k (by simp)
  have posted := h.mapLiu fun u => { u with sim := none }
  exact ite (suRealLevel (endHandover (mapSa (ended (mapBe (append (posted.post 46 false (by simp)) _) _)) _))) h

/-! ### Levels and inputs -/

theorem evalDiff (h : s.BeaconKept t) (published : Bool) : s.BeaconKept (t.evalDiff published) :=
  ite (ite (rakeDiff (frame h (by simp))) h) (ite (rakeDiff (frame h (by simp))) h)

theorem omPeak (h : s.BeaconKept t) (l : Nat) : s.BeaconKept (t.omPeak l) := frame h (by simp)

theorem levelToConsumers (h : s.BeaconKept t) (l : Nat) : s.BeaconKept (t.levelToConsumers l) :=
  omPeak (ite (ite (h.simEnd _) h) (frame h (by simp))) l

theorem wellToStaging (h : s.BeaconKept t) (changed : Bool) (level : Option Nat) :
    s.BeaconKept (t.wellToStaging changed level) := by
  have told : s.BeaconKept (if changed then t.suReport else t) := opt h suReport
  cases level with
  | none => exact told
  | some l => exact ite told (told.suLevel l)

theorem sampleWell (h : s.BeaconKept t) (raw : BitVec 12) : s.BeaconKept (t.sampleWell raw) := by
  unfold State.sampleWell
  have sensed {u : State} (changed : Bool) (k : s.BeaconKept u) :
      s.BeaconKept (if changed then u.postSensor .well else u) := opt k fun k => k.postSensor _
  have judged {u : State} (moved : Bool) (k : s.BeaconKept u) :
      s.BeaconKept (if moved then u.evalHigh.evalDisagree else u) := opt k fun k => k.evalHigh.evalDisagree
  have spoiled {u : State} (good : Bool) (k : s.BeaconKept u) :
      s.BeaconKept (if good then u else u.spoilInterval) := ite k (frame k (by simp))
  refine wellToStaging (opt ?_ fun k => frame k (by simp)) _ _
  split
  · exact levelToConsumers (evalDiff (judged _ (sensed _ (spoiled _ (frame h (by simp))))) _) _
  · exact evalDiff (judged _ (sensed _ (spoiled _ (frame h (by simp))))) _

theorem sampleInlet (h : s.BeaconKept t) (raw : BitVec 12) : s.BeaconKept (t.sampleInlet raw) :=
  evalDiff (opt (frame h (by simp)) fun k => k.postSensor _) _

theorem selectorChange (h : s.BeaconKept t) (p : Pump) : s.BeaconKept (t.selectorChange p) :=
  ite h (rederive (ite h (frame h (by simp))) p)

theorem pumpInputChange (h : s.BeaconKept t) (p : Pump) (off : Nat) : s.BeaconKept (t.pumpInputChange p off) := by
  unfold State.pumpInputChange
  split
  · exact h.selectorChange p
  · exact h.selectorChange p
  · exact opt h fun k => k.feedbackChange p _
  · exact opt h fun k => k.thermalTrip p
  · exact h.postLeak p

theorem inputToOwners (h : s.BeaconKept t) (k : Nat) : s.BeaconKept (t.inputToOwners k) := by
  unfold State.inputToOwners
  split
  · exact h.pumpInputChange _ _
  split
  · exact frame h (by simp)
  · exact frame h (by simp)
  · exact frame h (by simp)
  · exact opt h rakeOverloadActive
  · exact h.changePower
  · exact h.changePower
  · exact frame h (by simp)
  · exact evalDisagree (opt (frame h (by simp)) fun k => k.simEnd _)
  · exact evalDisagree (postHighHigh (frame h (by simp)))
  · exact frame h (by simp)
  · exact h

theorem inputChange (h : s.BeaconKept t) (k : Nat) : s.BeaconKept (t.inputChange k) :=
  inputToOwners (frame h (by simp)) k

theorem disagreeEnd (h : s.BeaconKept t) : s.BeaconKept t.disagreeEnd :=
  have posted := (h.mapLiu fun u => { u with disTimer := none, levelDisagree := !t.liu.levelDisagree }).post 36
    (!t.liu.levelDisagree) (by simp)
  ite (posted.fallbackCondition _) posted.tryLeaveFallback

/-! ### Links, the store and the clock -/

theorem hear (h : s.BeaconKept t) (p : Port) : s.BeaconKept (t.hear p) :=
  opt (frame h (by simp)) fun k => k.post _ false (linkPoint_pos p)

theorem removeEntryOf (h : s.BeaconKept t) (p : Port) (q : Pump) : s.BeaconKept (State.removeEntryOf p t q) := by
  unfold State.removeEntryOf
  split
  · exact ite (h.removeEntry q) h
  · exact h

theorem dropClaim (h : s.BeaconKept t) (p : Port) : s.BeaconKept (t.dropClaim p) := frame h (by simp)

theorem silence (h : s.BeaconKept t) (p : Port) : s.BeaconKept (t.silence p) := by
  have removed {u : State} (k : s.BeaconKept u) (q : Port) :
      s.BeaconKept (Pump.all.foldl (State.removeEntryOf q) u) := foldl k fun _ r _ k => k.removeEntryOf q r
  cases p with
  | panel => exact post (simEnd (dropClaim (removed (frame h (by simp)) _) _) _) _ true (linkPoint_pos _)
  | town => exact post (dropClaim (removed (frame h (by simp)) _) _) _ true (linkPoint_pos _)

theorem endWrite (h : s.BeaconKept t) (r : StoreResult) : s.BeaconKept (t.endWrite r) := by
  unfold State.endWrite
  cases t.ss.store with
  | commit p n => exact post (append (frame h (by simp)) _) 44 _ (by simp)
  | snapshot | idle => exact post (frame h (by simp)) 44 _ (by simp)

theorem completeWrite (h : s.BeaconKept t) (r : StoreResult) : s.BeaconKept (t.completeWrite r) :=
  opt (h.endWrite r) fun k => frame k (by simp)

theorem takeSnapshot (h : s.BeaconKept t) : s.BeaconKept t.takeSnapshot := ite (frame h (by simp)) (frame h (by simp))

theorem advanceClock (h : s.BeaconKept t) : s.BeaconKept t.advanceClock :=
  ite (post (frame h (by simp)) 45 true (by simp)) (ite (frame h (by simp)) (frame h (by simp)))

theorem setClock (h : s.BeaconKept t) (time : Nat) : s.BeaconKept (t.setClock time) :=
  post (append (frame h (by simp)) _) 45 false (by simp)

/-! ### The blocks at a commit

`State.commitAlarms` has no rule here: it changes what the beacon reads while the beacon stands as it was. -/

theorem commitLevels (h : s.BeaconKept t) : s.BeaconKept t.commitLevels := evalDisagree (evalHigh (frame h (by simp)))

theorem makeAbsent (h : s.BeaconKept t) (p : Pump) : s.BeaconKept (t.makeAbsent p) :=
  postLeak (toAbsent (frame h (by simp)) p) p

theorem makePresent (h : s.BeaconKept t) (p : Pump) : s.BeaconKept (t.makePresent p) :=
  postLeak (opt (h.rederive p) fun k => k.thermalTrip p) p

theorem commitPresence (h : s.BeaconKept t) (old : List Nat) (p : Pump) :
    s.BeaconKept (State.commitPresence old t p) :=
  ite (ite (h.makePresent p) (h.makeAbsent p)) h

theorem commitInterval (h : s.BeaconKept t) (old : List Nat) : s.BeaconKept (t.commitInterval old) := frame h (by simp)

theorem commitRake (h : s.BeaconKept t) (old : List Nat) : s.BeaconKept (t.commitRake old) := by
  have upTo {u : State} (k : s.BeaconKept u) :
      s.BeaconKept ((if u.changed old 36 then u.evalForced else u).commitInterval old) :=
    commitInterval (opt k fun k => frame k (by simp)) old
  unfold State.commitRake
  split <;> dsimp only <;> split
  · exact evalBlinding (upTo (frame h (by simp))) _
  · exact upTo (frame h (by simp))
  · exact evalBlinding (upTo h) _
  · exact upTo h

theorem commitOverflow (h : s.BeaconKept t) (old : List Nat) : s.BeaconKept (t.commitOverflow old) :=
  opt (opt (opt (frame h (by simp)) fun k => frame k (by simp)) openEvent) closeEvent

theorem commitSummary (h : s.BeaconKept t) (old : List Nat) : s.BeaconKept (t.commitSummary old) :=
  opt h fun k => k.closeSummary false

theorem commitLink (h : s.BeaconKept t) (old : List Nat) (p : Port) (k : Nat) : s.BeaconKept (t.commitLink old p k) :=
  opt h fun k => opt (frame k (by simp)) fun k => k.silence p

end State.BeaconKept

/-! ### A commit -/

/-- R166: what a commit does before the Alarm Table takes its new priorities and enables. -/
def State.commitToAlarms (s : State) (old : List Nat) : State :=
  let s := s.commitLevels.commitTables old
  let s := Pump.all.foldl (State.commitPumpItems old) s
  let s := (Pump.all.foldl (State.commitPresence old) s).commitRoster old
  ((((s.commitArbiter old).commitGuard old).commitRake old).commitOverflow old).commitSummary old

theorem State.applyCommit_eq (s : State) (old : List Nat) :
    s.applyCommit old =
      (((((s.commitToAlarms old).commitAlarms old).commitLink old .panel 52).commitLink old .town 53).commitStaging
        old) := rfl

theorem State.commitToAlarms_kept (s : State) (old : List Nat) : s.BeaconKept (s.commitToAlarms old) := by
  have levels : s.BeaconKept (s.commitLevels.commitTables old) :=
    (State.BeaconKept.refl s).commitLevels.frame (by simp)
  have present := (levels.foldl (f := State.commitPumpItems old) (l := Pump.all) fun _ _ _ k => k.frame (by simp)).foldl
    (f := State.commitPresence old) (l := Pump.all) fun _ p _ k => k.commitPresence old p
  exact (((present.frame (by simp)).commitRake old).commitOverflow old).commitSummary old

/-- Every point whose enable the commit leaves as it was is quiet. -/
def State.QuietSince (s : State) (old : List Nat) : Prop :=
  ∀ n, 1 ≤ n → n ≤ 46 → s.changed old (183 + n) = false → s.Quiet n

theorem State.QuietKept.quietSince {s t : State} {old : List Nat} (h : s.QuietKept t) (quiet : s.QuietSince old) :
    t.QuietSince old := by
  intro n low high unchanged
  refine h.quiet n low (quiet n low high ?_)
  simpa only [State.changed, State.item, h.active] using unchanged

/-- R130: a point at a commit leaves every quiet point quiet. -/
theorem State.commitPoint_quietKept (old : List Nat) (s : State) (n : Nat) (pos : 0 < n) :
    s.QuietKept (State.commitPoint old s n) := by
  unfold State.commitPoint
  dsimp only
  split
  next => exact (State.BeaconKept.refl s).toQuietKept
  next =>
    split
    next on =>
      split
      next =>
        refine (State.BeaconKept.append (State.QuietKept.refreshLines ?_) _).toQuietKept
        exact .setPoint n _ pos fun off => by simp [on] at off
      next => exact (State.BeaconKept.refl s).toQuietKept
    next =>
      split
      next => exact (State.BeaconKept.refl s).toQuietKept
      next => exact .setPoint n _ pos fun _ _ => rfl

/-- R130: a point at a commit is quiet after it. -/
theorem State.commitPoint_quiet (old : List Nat) (s : State) (n : Nat) (low : 1 ≤ n) (high : n ≤ 46)
    (quiet : s.QuietSince old) : (State.commitPoint old s n).Quiet n := by
  have kept := State.commitPoint_quietKept old s n low
  cases unchanged : s.changed old (183 + n) with
  | false => exact kept.quiet n low (quiet n low high unchanged)
  | true =>
    intro disabled
    rw [State.enabled_congr kept.active] at disabled
    simp only [State.commitPoint, unchanged, disabled, Bool.not_true, Bool.false_eq_true, if_false]
    split
    next normal => exact normal
    next =>
      rw [State.point_setPoint]
      split
      next => rfl
      next out => simp [State.point_of_length_le s (n := n) (by omega), Alarm.reset]

theorem State.commitPoints_quiet (old : List Nat) (l : List Nat) (s : State) (points : ∀ n ∈ l, 1 ≤ n ∧ n ≤ 46)
    (quiet : s.QuietSince old) :
    s.QuietKept (l.foldl (State.commitPoint old) s) ∧ ∀ n ∈ l, (l.foldl (State.commitPoint old) s).Quiet n := by
  induction l generalizing s with
  | nil => exact ⟨(State.BeaconKept.refl s).toQuietKept, by simp⟩
  | cons n l ih =>
    obtain ⟨low, high⟩ := points n (by simp)
    have first := State.commitPoint_quietKept old s n low
    obtain ⟨rest, done⟩ := ih _ (fun m mem => points m (by simp [mem])) (first.quietSince quiet)
    refine ⟨first.trans rest, fun m mem => ?_⟩
    rcases List.mem_cons.1 mem with rfl | mem
    · exact rest.quiet _ low (State.commitPoint_quiet old s _ low high quiet)
    · exact done m mem

/-- R121: the point numbers. -/
theorem mem_points {n : Nat} : n ∈ (List.range 46).map (· + 1) ↔ 1 ≤ n ∧ n ≤ 46 := by
  simp only [List.mem_map, List.mem_range]
  exact ⟨by rintro ⟨i, below, rfl⟩; omega, fun ⟨low, high⟩ => ⟨n - 1, by omega, by omega⟩⟩

/-- R130: after its part of a commit the Alarm Table is right, however the commit found it. -/
theorem State.commitAlarms_beaconRight (s : State) (old : List Nat) (quiet : s.QuietSince old) :
    (s.commitAlarms old).beaconRight := by
  obtain ⟨_, done⟩ := State.commitPoints_quiet old _ s (fun _ => mem_points.1) quiet
  exact ⟨rfl, fun n low high => done n (mem_points.2 ⟨low, high⟩)⟩

/-- R166: the staged values made active, the blocks not told yet. -/
def State.adopted (s : State) : State := s.mapSs fun t => { t with active := proposed t.active t.entries }

theorem State.adopted_quietSince (s : State) (right : s.beaconRight) : s.adopted.QuietSince s.ss.active := by
  intro n low high unchanged disabled
  refine right.2 n low high ?_
  simp only [State.changed, bne_eq_false_iff_eq] at unchanged
  simpa only [State.enabled, State.item, unchanged] using disabled

/-- R130, R166: the table is right once it has taken its new items, and the blocks told after it keep it so. -/
theorem State.commit_beaconRight (s : State) (p : Port) (right : s.beaconRight) : (s.commit p).beaconRight := by
  have told := s.adopted.commitToAlarms_kept s.ss.active
  have table := State.commitAlarms_beaconRight _ _ (told.quietSince (s.adopted_quietSince right))
  have links := ((State.BeaconKept.refl ((s.adopted.commitToAlarms s.ss.active).commitAlarms s.ss.active)).commitLink
    s.ss.active .panel 52).commitLink s.ss.active .town 53
  have stored := links.frame (u := s.commit p) (by simp [State.commit, State.applyCommit_eq, State.adopted])
  exact stored.beaconRight table

/-! ### A reset -/

/-- R131: a reset begins with every point NORMAL and the beacon inactive. -/
theorem State.freshBlocks_beaconRight (s : State) (cause : ResetCause) (away : Nat) :
    (s.freshBlocks cause away).beaconRight := by
  have normal (n : Nat) : ((s.freshBlocks cause away).point n).state = .normal := by
    change (((List.replicate 46 Alarm.reset).getD (n - 1) Alarm.reset).state) = .normal
    rw [List.getD_eq_getElem?_getD, List.getElem?_getD_replicate_default_eq]
    rfl
  have dark : (s.freshBlocks cause away).beaconOf = false := by simp [State.beaconOf, normal]
  exact ⟨dark.symm, fun n _ _ _ => normal n⟩

theorem State.BeaconKept.resetFull {s t : State} (h : s.BeaconKept t) : s.BeaconKept t.resetFull :=
  .opt h fun k => .post (.frame k (by simp)) 43 true (by simp)

theorem State.BeaconKept.resetPosts {s t : State} (h : s.BeaconKept t) : s.BeaconKept t.resetPosts := by
  have leaks {u : State} (k : s.BeaconKept u) : s.BeaconKept (Pump.all.foldl State.postLeak u) :=
    k.foldl fun _ p _ k => k.postLeak p
  unfold State.resetPosts
  exact .post (.post (.postHighHigh (leaks (.resetFull (h.post 45 _ (by simp))))) 40 _ (by simp)) 44 _ (by simp)

theorem State.BeaconKept.resetRecords {s t : State} (h : s.BeaconKept t) (old : State) :
    s.BeaconKept (old.resetRecords t) := by
  unfold State.resetRecords
  refine .appendRaw ?_ _
  split
  · exact h.appendRaw _
  · exact h

theorem State.BeaconKept.omEvaluate {s t : State} (h : s.BeaconKept t) : s.BeaconKept t.omEvaluate := .frame h (by simp)

theorem State.restart_beaconRight (s : State) (cause : ResetCause) (away : Nat) :
    (s.restart cause away).beaconRight := by
  have fresh := s.freshBlocks_beaconRight cause away
  have recorded := (State.BeaconKept.refl (s.freshBlocks cause away)).resetRecords s
  have joined : (s.freshBlocks cause away).BeaconKept
      (Pump.all.foldl State.testJoin ((s.resetRecords (s.freshBlocks cause away)).resetStaging.resetHold)) :=
    recorded.frame (by simp [Pump.all, State.resetStaging, State.resetHold])
  exact joined.resetPosts.omEvaluate.offered.beaconRight fresh

/-! ### The commands -/

namespace State.BeaconKept

variable {s t u : State}

theorem onlyIf (h : s.BeaconKept t) (occasion : Bool) (after : s.BeaconKept u) :
    s.BeaconKept (t.onlyIf occasion u) := ite after h

theorem reply (h : s.BeaconKept t) (p : Port) (tag code : Byte) (absent : Bool) (a : Answer) :
    s.BeaconKept (t.reply p tag code absent a) := frame h (by simp)

/-- R149: a request changes the table by the hearing of its link and by its owner's act. -/
theorem request (h : s.BeaconKept t) (p : Port) (tag : Byte) (code : Nat) (act : State → State × Answer)
    (acts : ∀ u, s.BeaconKept u → s.BeaconKept (act u).1) : s.BeaconKept (t.request p tag code act) :=
  ite (reply (acts _ (h.hear p)) _ _ _ _ _) (reply (h.hear p) _ _ _ _ _)

theorem seePoint (h : s.BeaconKept t) (p : Port) (n : Nat) : s.BeaconKept (State.seePoint p t n) :=
  h.setPoint_sameState rfl

theorem refreshLines (h : s.BeaconKept t) : s.BeaconKept t.refreshLines := h.toQuietKept.refreshLines

end State.BeaconKept

/-- R124: what an acknowledgment takes are point numbers, which begin at 1. -/
theorem State.pos_of_mem_unackedPoints {s : State} {k n : Nat} (mem : k ∈ s.unackedPoints n) : 0 < k := by
  simp only [State.unackedPoints, List.mem_filter] at mem
  obtain ⟨mem, _⟩ := mem
  split at mem
  next => exact (mem_points.1 mem).1
  next named =>
    rw [List.mem_singleton.1 mem]
    omega

section
open State.BeaconKept

/-- Every command but a reset and a commit keeps the beacon. -/
theorem exec_beaconKept (i : Instr) (s : State) (noReset : ∀ k, i ≠ .reset k)
    (noCommit : ∀ p tag, i ≠ .commitSettings p tag) : ∃ t, exec i s = .next t ∧ s.BeaconKept t := by
  have h := State.BeaconKept.refl s
  cases i with
  | reset k => exact absurd rfl (noReset k)
  | commitSettings p tag => exact absurd rfl (noCommit p tag)
  | sampleEvent c raw =>
    refine ⟨_, rfl, h.onlyIf _ (finish ?_ s)⟩
    cases c with
    | well => exact h.sampleWell raw
    | inlet => exact h.sampleInlet raw
  | rawInputChange k v => exact ⟨_, rfl, h.frame (by simp)⟩
  | inputChange k => exact ⟨_, rfl, h.onlyIf _ ((h.inputChange k).finish s)⟩
  | disagreeTimerEnd => exact ⟨_, rfl, h.onlyIf _ (h.disagreeEnd.finish s)⟩
  | flowTick => exact ⟨_, rfl, h.onlyIf _ (ite (finish (frame h (by simp)) s) (frame h (by simp)))⟩
  | balanceTick => exact ⟨_, rfl, h.onlyIf _ (finish (frame h (by simp)) s)⟩
  | summaryBoundary => exact ⟨_, rfl, h.onlyIf _ (h.closeSummary _)⟩
  | clockAdvance => exact ⟨_, rfl, h.onlyIf _ h.advanceClock⟩
  | manualEntryExpiry p => exact ⟨_, rfl, h.onlyIf _ ((h.removeEntry p).finish s)⟩
  | dutyHoldExpiry => exact ⟨_, rfl, h.onlyIf _ (finish (frame h (by simp)) s)⟩
  | handoverTimeout => exact ⟨_, rfl, h.onlyIf _ (h.endHandover.finish s)⟩
  | dolRunupEnd p => exact ⟨_, rfl, h.onlyIf _ (finish (frame h (by simp)) s)⟩
  | starTimerEnd p => exact ⟨_, rfl, h.onlyIf _ (finish (frame h (by simp)) s)⟩
  | guardGrant g => exact ⟨_, rfl, h.onlyIf _ (finish (frame h (by simp)) s)⟩
  | minRunEnd p => exact ⟨_, rfl, h.onlyIf _ (finish (frame h (by simp)) s)⟩
  | feedbackDeadline p => exact ⟨_, rfl, h.onlyIf _ ((h.lockOut p _).finish s)⟩
  | restEnd p => exact ⟨_, rfl, h.onlyIf _ (finish (frame h (by simp [State.endRest])) s)⟩
  | restartHoldEnd => exact ⟨_, rfl, h.onlyIf _ (finish (frame h (by simp)) s)⟩
  | staggerEnd => exact ⟨_, rfl, h.onlyIf _ (finish (frame h (by simp)) s)⟩
  | historyWindowEnd => exact ⟨_, rfl, h.onlyIf _ (finish (frame h (by simp [State.takeWindow])) s)⟩
  | rakeInrushTimerEnd => exact ⟨_, rfl, h.onlyIf _ (finish (frame h (by simp [State.endInrush])) s)⟩
  | rakeTravelTimeout => exact ⟨_, rfl, h.onlyIf _ ((h.rakeLock _).finish s)⟩
  | jamBackoffEnd => exact ⟨_, rfl, h.onlyIf _ (h.rakeBackoffEnd.finish s)⟩
  | dischargeEnd => exact ⟨_, rfl, h.onlyIf _ (finish (frame h (by simp)) s)⟩
  | rakeIntervalExpiry => exact ⟨_, rfl, h.onlyIf _ (finish (frame h (by simp)) s)⟩
  | blindingTimerEnd => exact ⟨_, rfl, h.onlyIf _ (post (frame h (by simp)) 39 true (by simp))⟩
  | overflowOpenTimerEnd => exact ⟨_, rfl, h.onlyIf _ h.openEvent⟩
  | overflowCloseTimerEnd => exact ⟨_, rfl, h.onlyIf _ h.closeEvent⟩
  | overflowRecordUpdate => exact ⟨_, rfl, h.onlyIf _ (frame h (by simp))⟩
  | simTimeLimit => exact ⟨_, rfl, h.onlyIf _ ((h.simEnd _).finish s)⟩
  | linkTimeout p => exact ⟨_, rfl, h.onlyIf _ ((h.silence p).finish s)⟩
  | storeWriteComplete r => exact ⟨_, rfl, h.onlyIf _ (h.completeWrite r)⟩
  | snapshotDue => exact ⟨_, rfl, h.onlyIf _ h.takeSnapshot⟩
  | readReply p n => exact ⟨_, rfl, h.frame (by simp)⟩
  | malformedFrame p dir bytes =>
    refine ⟨_, rfl, ?_⟩
    split
    · exact frame h (by simp)
    all_goals exact h
  | unknownRequest p tag code => exact ⟨_, rfl, h.onlyIf _ (frame h (by simp))⟩
  | backupDomainSupplyLoss => exact ⟨_, rfl, h.frame (by simp)⟩
  | readIdentity p tag => exact ⟨_, rfl, h.request p _ _ _ fun _ k => k⟩
  | readStatus p tag sect =>
    refine ⟨_, rfl, h.request p _ _ _ fun _ k => ?_⟩
    split <;> exact k
  | readRefusal p tag => exact ⟨_, rfl, h.request p _ _ _ fun _ k => frame k (by simp)⟩
  | setAttention p tag threshold =>
    refine ⟨_, rfl, h.request p _ _ _ fun _ k => ?_⟩
    split
    · exact refreshLines (frame k (by simp))
    · exact k
  | readInputs p tag => exact ⟨_, rfl, h.request p _ _ _ fun _ k => frame k (by simp)⟩
  | simEnter p tag well inlet =>
    refine ⟨_, rfl, h.request p _ _ _ fun u k => ?_⟩
    split
    · exact k
    split
    · exact k
    · exact (k.simStart _ _).finish u
  | simSet p tag well inlet =>
    refine ⟨_, rfl, h.request p _ _ _ fun u k => ?_⟩
    split
    · exact (k.simSetLevels _ _).finish u
    · exact k
  | simExit p tag =>
    refine ⟨_, rfl, h.request p _ _ _ fun u k => ?_⟩
    split
    · exact (k.simEnd _).finish u
    · exact k
  | pumpManual p tag pump act lease =>
    refine ⟨_, rfl, h.request p _ _ _ fun u k => ?_⟩
    split
    · exact k
    split
    · exact k
    split
    · exact k
    · exact finish (rederive (frame k (by simp)) _) u
  | pumpRelease p tag pump =>
    refine ⟨_, rfl, h.request p _ _ _ fun u k => ?_⟩
    split
    · exact k
    · exact (k.removeEntry _).finish u
  | resetLockout p tag pump =>
    refine ⟨_, rfl, h.request p _ _ _ fun u k => ?_⟩
    split
    · exact k
    split
    · exact k
    · exact opt k fun k => (k.endLockout _).finish u
  | rakeRequest p tag => exact ⟨_, rfl, h.request p _ _ _ fun u k => finish (frame k (by simp)) u⟩
  | resetScreen p tag =>
    refine ⟨_, rfl, h.request p _ _ _ fun u k => ?_⟩
    split
    · exact k.rakeUnlock.finish u
    · exact k
  | readAlarms p tag =>
    exact ⟨_, rfl, h.request p _ _ _ fun _ k => refreshLines (foldl k fun _ n _ k => k.seePoint p n)⟩
  | readAttention p tag => exact ⟨_, rfl, h.request p _ _ _ fun _ k => k⟩
  | ackAlarm p tag point =>
    refine ⟨_, rfl, h.request p _ _ _ fun u k => ?_⟩
    split
    · exact k
    · exact foldl k fun _ n mem k => k.ackPoint p n (State.pos_of_mem_unackedPoints mem)
  | readLog p tag count =>
    refine ⟨_, rfl, h.request p _ _ _ fun _ k => ?_⟩
    cases p with
    | town => exact k
    | panel => exact frame k (by simp)
  | seekLog p tag seq => exact ⟨_, rfl, h.request p _ _ _ fun _ k => frame k (by simp)⟩
  | releaseLog p tag seq => exact ⟨_, rfl, h.request p _ _ _ fun _ k => evalFullAfterRelease (frame k ⟨rfl, rfl⟩)⟩
  | setClock p tag time => exact ⟨_, rfl, h.request p _ _ _ fun _ k => k.setClock _⟩
  | readSetting p tag item =>
    refine ⟨_, rfl, h.request p _ _ _ fun _ k => ?_⟩
    split <;> exact k
  | editSetting p tag item value =>
    refine ⟨_, rfl, h.request p _ _ _ fun _ k => ?_⟩
    split
    · exact k
    · exact frame k (by simp)
  | discardSettings p tag =>
    refine ⟨_, rfl, h.request p _ _ _ fun _ k => ?_⟩
    split <;> exact frame k (by simp)

end

theorem State.request_beaconRight (s : State) (p : Port) (tag : Byte) (code : Nat) (act : State → State × Answer)
    (right : s.beaconRight) (acts : ∀ u, u.beaconRight → (act u).1.beaconRight) :
    (s.request p tag code act).beaconRight := by
  have heard := ((State.BeaconKept.refl s).hear p).beaconRight right
  have replied {u : State} (a : Answer) : u.beaconRight → (u.reply p tag (BitVec.ofNat 8 code) false a).beaconRight :=
    ((State.BeaconKept.refl u).reply p _ _ _ a).beaconRight
  unfold State.request
  dsimp only
  split
  · exact replied _ (acts _ heard)
  · exact replied _ heard

/-- R165, R166: COMMIT_SETTINGS, whether it is refused or commits. -/
theorem execCommitSettings_beaconRight (p : Port) (tag : Byte) (s : State) (right : s.beaconRight) :
    ∃ t, exec (.commitSettings p tag) s = .next t ∧ t.beaconRight := by
  refine ⟨_, rfl, s.request_beaconRight p tag _ _ right fun u right => ?_⟩
  have cleared : (u.clearDropped p).beaconRight :=
    ((State.BeaconKept.refl u).frame (by simp)).beaconRight right
  split
  · exact cleared
  split
  · exact cleared
  · exact ((State.BeaconKept.refl _).finish u).beaconRight ((u.clearDropped p).commit_beaconRight p cleared)

theorem exec_beaconRight {i : Instr} {s t : State} (right : s.beaconRight) (run : exec i s = .next t) :
    t.beaconRight := by
  have answers : ∃ t, exec i s = .next t ∧ t.beaconRight := by
    by_cases reset : ∃ k, i = .reset k
    · obtain ⟨k, rfl⟩ := reset
      exact ⟨_, rfl, s.restart_beaconRight k.cause k.away⟩
    by_cases commit : ∃ p tag, i = .commitSettings p tag
    · obtain ⟨p, tag, rfl⟩ := commit
      exact execCommitSettings_beaconRight p tag s right
    obtain ⟨t, run, kept⟩ := exec_beaconKept i s (fun k eq => reset ⟨k, eq⟩) fun p tag eq => commit ⟨p, tag, eq⟩
    exact ⟨t, run, kept.beaconRight right⟩
  obtain ⟨u, run', right'⟩ := answers
  cases run.symm.trans run'
  exact right'

/-- Settles O11: a command in the queue, a timer event and the passing of time each keep the beacon right, which reads
neither the queue nor the uptime. -/
theorem beaconRightKept : Obligations.BeaconRightKept := by
  unfold Obligations.BeaconRightKept
  intro s t right stepped
  unfold step at stepped
  split at stepped
  next c rest _ => exact exec_beaconRight (s := { s with pending := rest }) right stepped
  next =>
    split at stepped
    next c _ => exact exec_beaconRight right stepped
    next =>
      cases stepped
      exact right

end Sys2Proof.Machine
end

section
/-! SUPPORT. The order of the unseen points (R126): the model's three filters by priority give the one list that is
ordered by priority and then by number. -/

namespace Sys2Proof.Machine

/-! ### Settings in range -/

theorem inItemRange_of_settingsSound {l : List Nat} (sound : settingsSound l = true) {k : Nat} (low : 1 ≤ k)
    (high : k ≤ 229) : inItemRange k (itemOf l k) = true := by
  simp only [settingsSound, Bool.and_eq_true, List.all_eq_true, List.mem_range] at sound
  obtain ⟨⟨_, ranges⟩, _⟩ := sound
  simpa [Nat.sub_add_cancel low] using ranges (k - 1) (by omega)

theorem itemRange_priority {n : Nat} (low : 1 ≤ n) (high : n ≤ 46) :
    itemRange (137 + n) = ⟨1, 3, defaultPriority n⟩ := by
  unfold itemRange
  rw [if_neg (by omega), if_neg (by omega), if_neg (by omega), if_neg (by omega), if_neg (by omega), if_pos (by omega),
    Nat.add_sub_cancel_left]

/-- R121: a point's priority is 1, 2 or 3. -/
theorem State.priority_range {s : State} (sound : settingsSound s.ss.active = true) {n : Nat} (low : 1 ≤ n)
    (high : n ≤ 46) : s.priority n = 1 ∨ s.priority n = 2 ∨ s.priority n = 3 := by
  have range := inItemRange_of_settingsSound sound (k := 137 + n) (by omega) (by omega)
  simp only [inItemRange, itemRange_priority low high, Bool.and_eq_true, decide_eq_true_eq] at range
  obtain ⟨⟨least, greatest⟩, _⟩ := range
  change s.item (137 + n) = 1 ∨ s.item (137 + n) = 2 ∨ s.item (137 + n) = 3
  simp only [State.item]
  omega

/-! ### The order of the unseen points -/

/-- R126: point `a` stands before point `b`. -/
def State.standsBefore (s : State) (a b : Nat) : Prop :=
  s.priority a < s.priority b ∨ (s.priority a = s.priority b ∧ a < b)

theorem State.mem_unseenOf {s : State} {p : Port} {prio n : Nat} :
    n ∈ s.unseenOf p prio ↔ (1 ≤ n ∧ n ≤ 46) ∧ (s.point n).unseen.get p = true ∧ s.priority n = prio := by
  simp only [State.unseenOf, List.mem_filter, mem_points, Bool.and_eq_true, beq_iff_eq]

theorem State.mem_unseenPoints {s : State} (sound : settingsSound s.ss.active = true) {p : Port} {n : Nat} :
    n ∈ s.unseenPoints p ↔ 1 ≤ n ∧ n ≤ 46 ∧ (s.point n).unseen.get p = true := by
  simp only [State.unseenPoints, List.mem_append, State.mem_unseenOf]
  constructor
  · tauto
  · rintro ⟨low, high, unseen⟩
    have range := State.priority_range sound low high
    tauto

/-- Within one priority the points rise by number. -/
theorem State.unseenOf_pairwise (s : State) (p : Port) (prio : Nat) :
    (s.unseenOf p prio).Pairwise s.standsBefore := by
  have rising : (s.unseenOf p prio).Pairwise (· < ·) :=
    ((List.pairwise_lt_range (n := 46)).map (· + 1) fun _ _ => Nat.succ_lt_succ).filter _
  refine rising.imp_of_mem fun memA memB less => .inr ⟨?_, less⟩
  rw [(State.mem_unseenOf.1 memA).2.2, (State.mem_unseenOf.1 memB).2.2]

theorem State.unseenPoints_pairwise (s : State) (p : Port) : (s.unseenPoints p).Pairwise s.standsBefore := by
  have apart {i j a b : Nat} (less : i < j) (memA : a ∈ s.unseenOf p i) (memB : b ∈ s.unseenOf p j) :
      s.standsBefore a b := by
    refine .inl ?_
    rwa [(State.mem_unseenOf.1 memA).2.2, (State.mem_unseenOf.1 memB).2.2]
  refine List.pairwise_append.2 ⟨List.pairwise_append.2 ⟨s.unseenOf_pairwise p 1, s.unseenOf_pairwise p 2, ?_⟩,
    s.unseenOf_pairwise p 3, ?_⟩
  · exact fun a memA b memB => apart (by decide) memA memB
  · intro a memA b memB
    rcases List.mem_append.1 memA with memA | memA
    · exact apart (by decide) memA memB
    · exact apart (by decide) memA memB

/-- A list with these points in this order is the model's. -/
theorem State.unseenPoints_unique {s : State} (sound : settingsSound s.ss.active = true) {p : Port} {l : List Nat}
    (points : ∀ n, n ∈ l ↔ 1 ≤ n ∧ n ≤ 46 ∧ (s.point n).unseen.get p = true) (ordered : l.Pairwise s.standsBefore) :
    s.unseenPoints p = l := by
  have irrefl {a b : Nat} (before : s.standsBefore a b) : a ≠ b := by
    rintro rfl
    rcases before with less | ⟨_, less⟩ <;> exact Nat.lt_irrefl _ less
  have asymm (a b : Nat) (ab : s.standsBefore a b) (ba : s.standsBefore b a) : a = b := by
    simp only [State.standsBefore] at ab ba
    omega
  have same : (s.unseenPoints p).Perm l :=
    (List.perm_ext_iff_of_nodup ((s.unseenPoints_pairwise p).imp irrefl) (ordered.imp irrefl)).2 fun n =>
      (State.mem_unseenPoints sound).trans (points n).symm
  exact same.eq_of_pairwise (fun a b _ _ => asymm a b) (s.unseenPoints_pairwise p) ordered

/-! ### The reply -/

/-- R147, R149: what a reply of acceptance leaves in the port's buffer; nothing but the ports is changed. -/
theorem State.reply_accepted (s : State) (p : Port) (tag code : Byte) (payload : List Byte) :
    (s.reply p tag code false (.ok payload)).accepted p tag code payload ∧
      s.reply p tag code false (.ok payload) = { s with ports := (s.reply p tag code false (.ok payload)).ports } := by
  refine ⟨⟨_, by rw [State.reply, State.get_mapPort_self]; rfl, rfl, rfl, rfl, rfl⟩, rfl⟩

/-- R127: what READ_ATTENTION answers for the points `l`: their number, and the entry of the first or its absence. -/
def State.attentionBytes (s : State) (l : List Nat) : List Byte :=
  BitVec.ofNat 8 l.length ::
    match l with
    | n :: _ => 1 :: s.alarmEntry n
    | [] => List.replicate 16 0

theorem execReadAttention_eq (s : State) (p : Port) (tag : Byte) :
    exec (.readAttention p tag) s =
      .next ((s.hear p).reply p tag 0x41 false (.ok ((s.hear p).attentionBytes ((s.hear p).unseenPoints p)))) := by
  have allowed : allowedOn p 0x41 = true := by cases p <;> rfl
  simp only [exec, execReadAttention, State.request, allowed, if_true]
  rfl

/-- Settles O53: the model's list of unseen points is the one so ordered, whose number and first entry the reply holds;
the reply itself changes nothing but the port. -/
theorem attentionRead : Obligations.AttentionRead := by
  unfold Obligations.AttentionRead
  intro s p tag l ⟨sound, _⟩ h points ordered
  have heard : settingsSound h.ss.active = true := by simpa [h] using sound
  obtain ⟨accepted, rest⟩ := h.reply_accepted p tag 0x41 (h.attentionBytes l)
  refine ⟨_, ?_, rest, accepted⟩
  rw [execReadAttention_eq, State.unseenPoints_unique heard points ordered]

end Sys2Proof.Machine
end
